-- ==== Sys2Proof/Word.lean ====
section
/-! DEFINITION. The widths of the block's words and registers, one abbreviation for each (00_scope R12, 10_state R30). -/

namespace Sys2Proof

/-- A 32-bit word: data word, response word, `ms`, a countdown timer (R32, R33, R54, R100). -/
abbrev Word := BitVec 32

/-- A 16-bit command word (R100). -/
abbrev CmdWord := BitVec 16

/-- An 8-bit value: a lane's history, a raw sample, a class index (R34, R51, R101). -/
abbrev Byte := BitVec 8

/-- A 5-bit PWM value: an intensity level, `slice` or `frame` (R45 to R48). -/
abbrev Level := BitVec 5

/-- A 2-bit selector field, `s = cmd[9:8]`, or an aspect code `i[1:0]` (R101, R109). -/
abbrev Selector := BitVec 2

end Sys2Proof
end

