-- ==== Sys2Proof/Syntax.lean ====
section
/-! DEFINITION. The abstract syntax: the operand names of 00_scope R15, one constructor of `Instr` for each row of
spec/opcode_table.json (30_encoding R108), and the inputs that the ports of R100 present. -/

namespace Sys2Proof

/-- The three countdown timers (R15, R33). -/
inductive Timer where
  | delay
  | timeout
  | lockout
deriving DecidableEq, Repr

/-- An approach, A or B: a Direction other than NONE (R15, R16). -/
inductive Approach where
  | a
  | b
deriving DecidableEq, Repr

/-- A signal head: head A governs approach A, head B approach B (R15, R210). -/
inductive Head where
  | a
  | b
deriving DecidableEq, Repr

/-- The pages of STATUS_READ (R313). -/
inductive Page where
  | status
  | errCmd
  | cfg
  | dbLast
deriving DecidableEq, Repr

/-- The commands of R108, with the operands of R109. A selector that the spec lets a command's own rule reject (R113,
R330) keeps its two bits, so that the rule can reject it; every other operand is one of the names it may take. -/
inductive Instr where
  /-- NOP (R310) -/
  | nop
  /-- TMR_ARM timer selector, data word (R144) -/
  | tmrArm (t : Selector) (value : Word)
  /-- TMR_READ timer (R145) -/
  | tmrRead (t : Timer)
  /-- MS_READ (R146) -/
  | msRead
  /-- DB_UPDATE raw sample (R171) -/
  | dbUpdate (raw : Byte)
  /-- DB_READ (R173) -/
  | dbRead
  /-- DWELL class, randomized (R195) -/
  | dwell (cls : Byte) (randomized : Bool)
  /-- LOCK_REQ direction selector (R263) -/
  | lockReq (d : Selector)
  /-- LOCK_CLR (R264) -/
  | lockClr
  /-- ASPECT_SET head, aspect code, flash (R211) -/
  | aspectSet (h : Head) (aspect : Selector) (flash : Bool)
  /-- FSM_STEP (R277) -/
  | fsmStep
  /-- CFG_WRITE data word (R311) -/
  | cfgWrite (data : Word)
  /-- ASPECT_SYNC (R212) -/
  | aspectSync
  /-- STATUS_READ page (R313) -/
  | statusRead (p : Page)
  /-- PWM_READ head (R213) -/
  | pwmRead (h : Head)
  /-- TICK, on the tick port only (R141) -/
  | tick
deriving DecidableEq, Repr

/-- The two ports that carry words (R100). -/
inductive Port where
  | command
  | tick
deriving DecidableEq, Repr

/-- One input step (R14): RESET, a word on the tick port, or a command word with the data word beside it. -/
inductive Input where
  | reset
  | tickPort (w : CmdWord)
  | command (cmd : CmdWord) (data : Word)
deriving DecidableEq, Repr

end Sys2Proof
end

