-- ==== Sys2Proof/WellFormed.lean ====
section
/-! DEFINITION. Which instructions have an encoding: the field-value conditions of 30_encoding R108 and R113. -/

namespace Sys2Proof

/-- The field-value condition of the instruction's row of R108. -/
def Instr.wf : Instr → Bool
  | .nop => true
  | .tmrArm t _ => t != 3
  | .tmrRead _ => true
  | .msRead => true
  | .dbUpdate _ => true
  | .dbRead => true
  | .dwell _ _ => true
  | .lockReq d => d == 1 || d == 2
  | .lockClr => true
  | .aspectSet _ aspect _ => aspect != 3
  | .fsmStep => true
  | .cfgWrite _ => true
  | .aspectSync => true
  | .statusRead _ => true
  | .pwmRead _ => true
  | .tick => true

end Sys2Proof
end

