-- ==== Sys2Proof/Decode.lean ====
section
/-! DEFINITION. The decoder of 30_encoding R115 over the opcode map of R108, its rejections by name, and after it the
encoder written from the encoding column of R117; then how an opcode-table word is laid on a port. -/

namespace Sys2Proof

/-! ## Fields of a command word (R101, R109) -/

/-- `op = cmd[15:12]` -/
def fieldOp (cmd : CmdWord) : BitVec 4 := cmd.extractLsb' 12 4

/-- `s = cmd[9:8]` -/
def fieldS (cmd : CmdWord) : Selector := cmd.extractLsb' 8 2

/-- `s0 = cmd[8]` -/
def fieldS0 (cmd : CmdWord) : Bool := cmd.getLsbD 8

/-- `i = cmd[7:0]` -/
def fieldI (cmd : CmdWord) : Byte := cmd.extractLsb' 0 8

/-- `a = i[1:0]` -/
def fieldAspect (cmd : CmdWord) : Selector := cmd.extractLsb' 0 2

/-- `f = i[2]` -/
def fieldFlash (cmd : CmdWord) : Bool := cmd.getLsbD 2

/-- The timer a selector names: 0 delay, 1 timeout, 2 lockout; 3 names none (R109, R113). -/
def timerOf (s : Selector) : Option Timer :=
  if s = 0 then some .delay else if s = 1 then some .timeout else if s = 2 then some .lockout else none

/-- The head a one-bit selector names: 0 A, 1 B (R109). -/
def headOf (s0 : Bool) : Head := if s0 then .b else .a

/-- The page a selector names (R109, R313). -/
def pageOf (s : Selector) : Page :=
  if s = 0 then .status else if s = 1 then .errCmd else if s = 2 then .cfg else .dbLast

/-! ## The opcode map (R108) -/

/-- One row of the opcode map: its port, its match and mask, and the instruction its fields spell, if the field-value
condition of the row allows them. -/
structure OpRow where
  mnemonic : String
  port : Port
  pattern : CmdWord
  mask : CmdWord
  read : CmdWord → Word → Option Instr

/-- An instruction, if its field values are allowed (R108, last condition of a row). -/
def allowed (i : Instr) : Option Instr := if i.wf then some i else none

/-- The opcode map in the order R115 reads it, MS_READ before TMR_READ. -/
def opcodeTable : List OpRow :=
  [⟨"NOP", .command, 0x0000, 0xFFFF, fun _ _ => allowed .nop⟩,
   ⟨"TMR_ARM", .command, 0x1000, 0xFCFF, fun c d => allowed (.tmrArm (fieldS c) d)⟩,
   ⟨"MS_READ", .command, 0x2300, 0xFFFF, fun _ _ => allowed .msRead⟩,
   ⟨"TMR_READ", .command, 0x2000, 0xFCFF, fun c _ => (timerOf (fieldS c)).map .tmrRead⟩,
   ⟨"DB_UPDATE", .command, 0x4000, 0xFF00, fun c _ => allowed (.dbUpdate (fieldI c))⟩,
   ⟨"DB_READ", .command, 0x5000, 0xFFFF, fun _ _ => allowed .dbRead⟩,
   ⟨"DWELL", .command, 0x6000, 0xFE00, fun c _ => allowed (.dwell (fieldI c) (fieldS0 c))⟩,
   ⟨"LOCK_REQ", .command, 0x7000, 0xFCFF, fun c _ => allowed (.lockReq (fieldS c))⟩,
   ⟨"LOCK_CLR", .command, 0x8000, 0xFFFF, fun _ _ => allowed .lockClr⟩,
   ⟨"ASPECT_SET", .command, 0x9000, 0xFEF8,
     fun c _ => allowed (.aspectSet (headOf (fieldS0 c)) (fieldAspect c) (fieldFlash c))⟩,
   ⟨"FSM_STEP", .command, 0xA000, 0xFFFF, fun _ _ => allowed .fsmStep⟩,
   ⟨"CFG_WRITE", .command, 0xB000, 0xFFFF, fun _ d => allowed (.cfgWrite d)⟩,
   ⟨"ASPECT_SYNC", .command, 0xC000, 0xFFFF, fun _ _ => allowed .aspectSync⟩,
   ⟨"STATUS_READ", .command, 0xD000, 0xFCFF, fun c _ => allowed (.statusRead (pageOf (fieldS c)))⟩,
   ⟨"PWM_READ", .command, 0xE000, 0xFEFF, fun c _ => allowed (.pwmRead (headOf (fieldS0 c)))⟩,
   ⟨"TICK", .tick, 0xF000, 0xFFFF, fun _ _ => allowed .tick⟩]

/-- `(cmd & mask) = match` (R108). -/
def OpRow.fits (row : OpRow) (cmd : CmdWord) : Bool := cmd &&& row.mask == row.pattern

/-- What a row of a port reads from a word: the instruction, if the port, the bit pattern and the field values agree. -/
def OpRow.decode (row : OpRow) (port : Port) (cmd : CmdWord) (data : Word) : Option Instr :=
  if row.port = port ∧ row.fits cmd then row.read cmd data else none

/-! ## The decoder (R115) -/

/-- Why a word is Illegal. -/
inductive Illegal where
  /-- Opcode 0x3 on the command port (R110). -/
  | reservedOpcode
  /-- Opcode 0xF on the command port (R111). -/
  | tickOnCommandPort
  /-- A bit outside the fields of the opcode's format is set (R112). -/
  | mustBeZero
  /-- The pattern fits the row and the field value is not allowed (R113). -/
  | fieldValue
  /-- A word other than 0xF000 on the tick port (R115, I17). -/
  | notTickWord
deriving DecidableEq, Repr

/-- The name of the rejection of a word that no row reads (R110 to R113, R115). -/
def whyIllegal (port : Port) (cmd : CmdWord) : Illegal :=
  match port with
  | .tick => .notTickWord
  | .command =>
    if fieldOp cmd = 0x3 then .reservedOpcode
    else if fieldOp cmd = 0xF then .tickOnCommandPort
    else if opcodeTable.any (fun row => row.port = .command && row.fits cmd) then .fieldValue
    else .mustBeZero

/-- The total decoder of R115. -/
def decode (port : Port) (cmd : CmdWord) (data : Word) : Except Illegal Instr :=
  match opcodeTable.findSome? (fun row => row.decode port cmd data) with
  | some i => .ok i
  | none => .error (whyIllegal port cmd)

/-- What an input step asks for: nothing to decode for RESET (R14), else what its port's word decodes to. -/
def decodeInput : Input → Option (Except Illegal Instr)
  | .reset => none
  | .tickPort w => some (decode .tick w 0)
  | .command cmd data => some (decode .command cmd data)

/-! ## The encoder (R117) -/

/-- The selector code of a timer (R15). -/
def timerCode : Timer → Selector
  | .delay => 0
  | .timeout => 1
  | .lockout => 2

/-- The selector bit of a head (R15). -/
def headBit : Head → Bool
  | .a => false
  | .b => true

/-- The selector code of a page (R313). -/
def pageCode : Page → Selector
  | .status => 0
  | .errCmd => 1
  | .cfg => 2
  | .dbLast => 3

/-- A selector placed in bits [9:8]. -/
def atS (s : Selector) : CmdWord := s.setWidth 16 <<< 8

/-- A one-bit selector placed in bit [8]. -/
def atS0 (s0 : Bool) : CmdWord := (BitVec.ofBool s0).setWidth 16 <<< 8

/-- An immediate placed in bits [7:0]. -/
def atI (i : Byte) : CmdWord := i.setWidth 16

/-- The command word of an instruction, from the encoding column of R117. -/
def Instr.word : Instr → CmdWord
  | .nop => 0x0000
  | .tmrArm t _ => 0x1000 ||| atS t
  | .tmrRead t => 0x2000 ||| atS (timerCode t)
  | .msRead => 0x2300
  | .dbUpdate raw => 0x4000 ||| atI raw
  | .dbRead => 0x5000
  | .dwell cls r => 0x6000 ||| atS0 r ||| atI cls
  | .lockReq d => 0x7000 ||| atS d
  | .lockClr => 0x8000
  | .aspectSet h aspect f =>
    0x9000 ||| atS0 (headBit h) ||| ((BitVec.ofBool f).setWidth 16 <<< 2) ||| aspect.setWidth 16
  | .fsmStep => 0xA000
  | .cfgWrite _ => 0xB000
  | .aspectSync => 0xC000
  | .statusRead p => 0xD000 ||| atS (pageCode p)
  | .pwmRead h => 0xE000 ||| atS0 (headBit h)
  | .tick => 0xF000

/-- The data word an instruction carries; 0 beside a command that ignores it (R106, R107). -/
def Instr.dataWord : Instr → Word
  | .tmrArm _ value => value
  | .cfgWrite data => data
  | .nop => 0
  | .tmrRead _ => 0
  | .msRead => 0
  | .dbUpdate _ => 0
  | .dbRead => 0
  | .dwell _ _ => 0
  | .lockReq _ => 0
  | .lockClr => 0
  | .aspectSet _ _ _ => 0
  | .fsmStep => 0
  | .aspectSync => 0
  | .statusRead _ => 0
  | .pwmRead _ => 0
  | .tick => 0

/-- The port an instruction is issued on: TICK on the tick port, every other on the command port (R108, R111). -/
def Instr.port : Instr → Port
  | .tick => .tick
  | .nop => .command
  | .tmrArm _ _ => .command
  | .tmrRead _ => .command
  | .msRead => .command
  | .dbUpdate _ => .command
  | .dbRead => .command
  | .dwell _ _ => .command
  | .lockReq _ => .command
  | .lockClr => .command
  | .aspectSet _ _ _ => .command
  | .fsmStep => .command
  | .cfgWrite _ => .command
  | .aspectSync => .command
  | .statusRead _ => .command
  | .pwmRead _ => .command

/-- The input step that presents an instruction. -/
def encode (i : Instr) : Input :=
  match i.port with
  | .tick => .tickPort i.word
  | .command => .command i.word i.dataWord

/-! ## Pseudo-instructions (R119) and the configuration word (R118) -/

/-- `TMR_CLR t` expands to `TMR_ARM t, 0` (R119). -/
def tmrClr (t : Timer) : List Instr := [.tmrArm (timerCode t) 0]

/-- `STATUS` expands to `STATUS_READ 0` (R119). -/
def statusPseudo : List Instr := [.statusRead .status]

/-- `POLL raw, data`: one pass of the main loop, five commands in order (R119, R314). -/
def poll (raw : Byte) (data : Word) : List Instr :=
  [.cfgWrite data, .dbUpdate raw, .fsmStep, .aspectSync, .statusRead .status]

/-- `CFG(dwell=k, timeout=m, random=r, searchlight=s, invert=v)` (R118). -/
def cfgData (k m : Byte) (r s v : Bool) : Word :=
  k.setWidth 32 ||| (m.setWidth 32 <<< 8) ||| ((BitVec.ofBool r).setWidth 32 <<< 16)
    ||| ((BitVec.ofBool s).setWidth 32 <<< 17) ||| ((BitVec.ofBool v).setWidth 32 <<< 18)

/-! ## Opcode-table words -/

/-- An opcode-table word laid on a port: bits [15:0] are the command word and bits [47:16] the data word beside it, each
0 above `nbits`; the word 0xF000 goes to the tick port, every other to the command port (R100, R108; log 2). -/
def present (nbits w : Nat) : Input :=
  let v := w % 2 ^ nbits
  let cmd : CmdWord := BitVec.ofNat 16 v
  if cmd = 0xF000 then .tickPort cmd else .command cmd (BitVec.ofNat 32 (v / 2 ^ 16))

/-- The instruction the decoder reads from an opcode-table word, none where it rejects it. -/
def decodeTableWord (nbits w : Nat) : Option Instr :=
  match decodeInput (present nbits w) with
  | some (.ok i) => some i
  | _ => none

end Sys2Proof
end

