-- ==== Sys2Proof/Config.lean ====
section
/-! DEFINITION. The implementation parameters of 00_scope R10 as one record, the well-formedness test of R11, the values
this spec adopts, and the two OPEN parameters as constants without a body. -/

namespace Sys2Proof.Config

/-- The skew tier of a dwell class (R191). The probability column `p` is documentation and no rule reads it. -/
inductive Skew where
  | none
  | bimodal
deriving DecidableEq, Repr

/-- One row of `DWELL_TABLE`: the range in seconds and the skew tier (R191). -/
structure DwellRow where
  minS : Nat
  maxS : Nat
  skew : Skew
deriving DecidableEq, Repr

/-- The parameter record of R10. `DWELL_CLASSES` and `TIMEOUT_CLASSES` are the lengths of the two tables. -/
structure Params where
  /-- `TICKS_PER_S` -/
  ticksPerS : Nat
  /-- `MS_W` -/
  msW : Nat
  /-- `TMR_W` -/
  tmrW : Nat
  /-- `N_TIMERS` -/
  nTimers : Nat
  /-- `DB_LANES` -/
  dbLanes : Nat
  /-- `DB_DEPTH` -/
  dbDepth : Nat
  /-- `DB_INTERVAL`, in ticks -/
  dbInterval : Nat
  /-- `N_HEADS` -/
  nHeads : Nat
  /-- `N_CH` -/
  nCh : Nat
  /-- `PWM_SLICES` -/
  pwmSlices : Nat
  /-- `LEVEL_MAX` -/
  levelMax : Nat
  /-- `FRAMES_PER_CYCLE` -/
  framesPerCycle : Nat
  /-- `DWELL_STEP_S` -/
  dwellStepS : Nat
  /-- `DWELL_NOMINAL_S` -/
  dwellNominalS : Nat
  /-- `DWELL_TABLE` -/
  dwellTable : List DwellRow
  /-- `TIMEOUT_S` -/
  timeoutS : List Nat
  /-- `LOCKOUT_TICKS` -/
  lockoutTicks : Nat
  /-- `STRICT_CLEARING` -/
  strictClearing : Bool
  /-- `RNG`: from the seed, the number of draws so far and the clamped class, the raw number a draw is taken from
  (R193, R196). -/
  rng : Word → Nat → Nat → Nat

/-- `DWELL_CLASSES`, the number of entries of the dwell table (R10). -/
def Params.dwellClasses (P : Params) : Nat := P.dwellTable.length

/-- `TIMEOUT_CLASSES`, the number of entries of the timeout table (R10). -/
def Params.timeoutClasses (P : Params) : Nat := P.timeoutS.length

/-- An arm value that fits a timer of `TMR_W` bits (R11, third item). -/
def Params.fits (P : Params) (ticks : Nat) : Bool := decide (ticks < 2 ^ P.tmrW)

/-- R11: the table sizes lie in 1..256. -/
def Params.sizesOk (P : Params) : Bool :=
  decide (1 ≤ P.dwellClasses ∧ P.dwellClasses ≤ 256 ∧ 1 ≤ P.timeoutClasses ∧ P.timeoutClasses ≤ 256)

/-- R11: no dwell range is inverted. -/
def Params.rangesOk (P : Params) : Bool := P.dwellTable.all fun row => decide (row.minS ≤ row.maxS)

/-- R11: every product that arms a timer fits the timer. -/
def Params.armsOk (P : Params) : Bool :=
  P.fits ((P.dwellClasses - 1) * P.dwellStepS * P.ticksPerS)
    && P.dwellTable.all (fun row => P.fits (row.maxS * P.ticksPerS))
    && P.fits (P.dwellNominalS * P.ticksPerS)
    && P.timeoutS.all (fun secs => P.fits (secs * P.ticksPerS))
    && P.fits P.lockoutTicks

/-- R11: `PWM_SLICES = LEVEL_MAX + 1`. -/
def Params.slicesOk (P : Params) : Bool := decide (P.pwmSlices = P.levelMax + 1)

/-- The model's registers have the widths and counts of R10 and R30; a record with others is refused too.
DESIGN CHOICE, safe (log 9): the types of State are written at those widths. -/
def Params.widthsOk (P : Params) : Bool :=
  decide (P.msW = 32 ∧ P.tmrW = 32 ∧ P.nTimers = 3 ∧ P.dbLanes = 8 ∧ P.dbDepth = 8 ∧ P.nHeads = 2 ∧ P.nCh = 2
    ∧ P.levelMax < 32 ∧ 1 ≤ P.framesPerCycle ∧ P.framesPerCycle ≤ 32)

/-- The well-formedness of a parameter record (R11). -/
def Params.wf (P : Params) : Bool := P.sizesOk && P.rangesOk && P.armsOk && P.slicesOk && P.widthsOk

/-- A record is accepted only when it is well-formed; any other is rejected (R11, I19). -/
def Params.accept (P : Params) : Option Params := if P.wf then some P else none

/-- `STRICT_CLEARING`, OPEN: fixed by the hardware revision (R273, D19). No body, so that every claim holds for both
values (log 5). -/
opaque strictClearing : Bool

/-- `RNG`, OPEN (R193, D16): a free value for every seed, number of draws and class. No body, so that every claim
holds for every random source (log 4). -/
opaque rng : Word → Nat → Nat → Nat

/-- `DWELL_TABLE` of R191. -/
def dwellTable : List DwellRow :=
  [⟨0, 0, .none⟩, ⟨1, 5, .none⟩, ⟨5, 10, .none⟩, ⟨10, 20, .none⟩,
   ⟨15, 30, .bimodal⟩, ⟨15, 30, .bimodal⟩, ⟨15, 30, .bimodal⟩, ⟨30, 60, .none⟩]

/-- The record this spec adopts (R10); its numbers are the spec's own decisions (D1 to D3, D10, D15, D17, D18, D29). -/
def params : Params where
  ticksPerS := 1000
  msW := 32
  tmrW := 32
  nTimers := 3
  dbLanes := 8
  dbDepth := 8
  dbInterval := 10
  nHeads := 2
  nCh := 2
  pwmSlices := 32
  levelMax := 31
  framesPerCycle := 32
  dwellStepS := 5
  dwellNominalS := 1
  dwellTable := dwellTable
  timeoutS := [10, 20, 30, 60]
  lockoutTicks := 5000
  strictClearing := strictClearing
  rng := rng

end Sys2Proof.Config
end

