-- ==== Sys2Proof/Machine/State.lean ====
section
/-! DEFINITION. The architectural state of 10_state R30 as plain data, the reasons a step can stop, and the state right
after RESET (70_reset_and_hazards R360). -/

namespace Sys2Proof.Machine

/-- A Direction: NONE is `none` (R15). Code 3 is not representable (I16; log 8). -/
abbrev Direction := Option Approach

/-- The aspects of a signal head (R15). Code 3 is not representable (R44; log 8). -/
inductive Aspect where
  | off
  | red
  | green
deriving DecidableEq, Repr

/-- The nine states of the interlocking state machine, in the order of their codes 0 to 8 (R15). Codes 9 to 15 are not
representable (R40, I16; log 8). -/
inductive InterlockState where
  | idle
  | delay
  | request
  | clearance
  | timeout
  | occupied
  | lockout
  | clearing
  | reset
deriving DecidableEq, Repr

/-- The three countdown timers (R33). -/
structure Timers where
  delay : Word
  timeout : Word
  lockout : Word
deriving DecidableEq, Repr

/-- One value for each colour channel of a head: R is channel 0, G channel 1 (R15, R210). -/
@[ext]
structure PerChannel (α : Type) where
  r : α
  g : α
deriving DecidableEq, Repr

/-- One value for each head (R210). -/
@[ext]
structure PerHead (α : Type) where
  a : α
  b : α
deriving DecidableEq, Repr

/-- A head's target aspect register: the flash bit [2] and the aspect [1:0] (R44). -/
structure AspectReg where
  flash : Bool
  aspect : Aspect
deriving DecidableEq, Repr

/-- The configuration register, 19 bits in five fields (R51). -/
structure Cfg where
  dwellClass : Byte
  timeoutClass : Byte
  randomized : Bool
  searchlight : Bool
  invert : Bool
deriving DecidableEq, Repr

/-- The event `Frame(h, dR, dG)`; a duty is a number of slices, 0 to 32 (R227). -/
structure FrameEvent where
  head : Head
  dutyR : Nat
  dutyG : Nat
deriving DecidableEq, Repr

/-- The state of the block: the registers of R30, the output lines of R50, the outputs of the latest step (R54, R227;
log 3), and the model's own schedule of input steps (log 1) and draw counter (log 4). -/
@[ext]
structure State where
  /-- the millisecond counter (R32) -/
  ms : Word
  /-- the countdown timers (R33) -/
  tmr : Timers
  /-- the debounce histories, bit 0 the most recent sample (R34) -/
  dbHist : Vector Byte 8
  /-- the debounced lanes (R35) -/
  dbStable : Byte
  /-- `ms` at the last accepted update (R36) -/
  dbLast : Word
  /-- the random source has been seeded (R37) -/
  rngSeeded : Bool
  /-- the seed (R38) -/
  rngSeed : Word
  /-- the state machine's state (R40) -/
  fsmState : InterlockState
  /-- the approach the state machine serves (R41) -/
  holder : Direction
  /-- the junction lock's flag (R42) -/
  locked : Bool
  /-- the direction of the last successful acquisition (R43) -/
  lockHolder : Direction
  /-- the commanded aspects (R44) -/
  aspectReg : PerHead AspectReg
  /-- the target levels (R45) -/
  target : PerHead (PerChannel Level)
  /-- the current levels (R46) -/
  level : PerHead (PerChannel Level)
  /-- the position in the PWM frame (R47) -/
  slice : Level
  /-- the position in the PWM cycle (R48) -/
  frame : Level
  /-- the flasher phase, true in the dark phase (R49) -/
  flashPhase : Bool
  /-- the configuration register (R51) -/
  cfg : Cfg
  /-- the sticky error bit (R52) -/
  err : Bool
  /-- the first illegal command word (R53) -/
  errCmd : CmdWord
  /-- the output lines (R50) -/
  line : PerHead (PerChannel Bool)
  /-- the response of the latest step; TICK and RESET produce none (R54, R360; log 3) -/
  resp : Option Word
  /-- the Frame events of the latest step, in the order emitted (R227; log 3) -/
  frames : List FrameEvent
  /-- MODEL: the input steps still to come, in their order (R83; log 1) -/
  inputs : List Input
  /-- MODEL: how many draws have been taken; only the free value `Config.rng` reads it (R193; log 4) -/
  drawCount : Nat
deriving DecidableEq, Repr

/-- Why a step stops with a fault. -/
inductive Fault where
  /-- Raised by FSM_STEP where it needs the holder's approach and `holder` is NONE. By R283 no run reaches such a state
  and the spec gives it no effect. Safe (log 6). -/
  | holderNone
deriving DecidableEq, Repr

/-- Why a step is refused. -/
inductive Refusal where
  /-- Raised by an arm of `exec` whose instruction has no meaning yet; no arm does now. Safe. -/
  | notModelled (mnemonic : String)
  /-- Raised by `step` on a tick-port word other than 0xF000, which the tick source cannot produce (R115, R120, I17).
  Safe (log 7). -/
  | tickPortWord
deriving DecidableEq, Repr

/-- The state right after RESET (R360, R361). `inputs` and `drawCount` are the model's own (log 1, log 4). -/
def State.reset : State where
  ms := 0
  tmr := ⟨0, 0, 0⟩
  dbHist := Vector.replicate 8 0
  dbStable := 0
  dbLast := 0
  rngSeeded := false
  rngSeed := 0
  fsmState := .idle
  holder := none
  locked := false
  lockHolder := none
  aspectReg := ⟨⟨false, .red⟩, ⟨false, .red⟩⟩
  target := ⟨⟨31, 0⟩, ⟨31, 0⟩⟩
  level := ⟨⟨31, 0⟩, ⟨31, 0⟩⟩
  slice := 0
  frame := 0
  flashPhase := false
  cfg := ⟨0, 0, false, false, false⟩
  err := false
  errCmd := 0
  line := ⟨⟨false, false⟩, ⟨false, false⟩⟩
  resp := none
  frames := []
  inputs := []
  drawCount := 0

end Sys2Proof.Machine
end

