-- ==== Sys2Proof/Machine/Operands.lean ====
section
/-! DEFINITION. Operand forms and codes: the named codes of 00_scope R15, reading and writing the registers an operand
selects (30_encoding R109), and the places of fields in a response word (45_control R313, 43_aspect_driver R213). -/

namespace Sys2Proof.Machine

/-! ## Codes (R15) -/

/-- The code of a Direction: NONE 0, A 1, B 2. -/
def directionCode : Direction → BitVec 2
  | none => 0
  | some .a => 1
  | some .b => 2

/-- The direction a LOCK_REQ selector names: 1 A, 2 B; 0 and 3 name none (R109, R113). -/
def approachOf (d : Selector) : Option Approach :=
  if d = 1 then some .a else if d = 2 then some .b else none

/-- The code of an Aspect: OFF 0, RED 1, GREEN 2. -/
def aspectCode : Aspect → BitVec 2
  | .off => 0
  | .red => 1
  | .green => 2

/-- The aspect an ASPECT_SET code names; 3 names none (R109, R113). -/
def aspectOfCode (a : Selector) : Option Aspect :=
  if a = 0 then some .off else if a = 1 then some .red else if a = 2 then some .green else none

/-- The code of an InterlockState, IDLE 0 to RESET 8. -/
def fsmCode : InterlockState → BitVec 4
  | .idle => 0
  | .delay => 1
  | .request => 2
  | .clearance => 3
  | .timeout => 4
  | .occupied => 5
  | .lockout => 6
  | .clearing => 7
  | .reset => 8

/-- `opp(A) = B`, `opp(B) = A` (R15). -/
def opp : Approach → Approach
  | .a => .b
  | .b => .a

/-- `dir(head A) = A`, `dir(head B) = B` (R278). -/
def dirOf : Head → Approach
  | .a => .a
  | .b => .b

/-! ## Selected registers -/

/-- `tmr[t]` (R33). -/
def readTimer (tmr : Timers) : Timer → Word
  | .delay => tmr.delay
  | .timeout => tmr.timeout
  | .lockout => tmr.lockout

/-- `tmr[t] <- v`; the other two timers keep their values (R144, R151). -/
def writeTimer (tmr : Timers) (t : Timer) (v : Word) : Timers :=
  match t with
  | .delay => { tmr with delay := v }
  | .timeout => { tmr with timeout := v }
  | .lockout => { tmr with lockout := v }

/-- The value of one head. -/
def atHead {α : Type} (x : PerHead α) : Head → α
  | .a => x.a
  | .b => x.b

/-- One head's value written, the other kept. -/
def setHead {α : Type} (x : PerHead α) (h : Head) (v : α) : PerHead α :=
  match h with
  | .a => { x with a := v }
  | .b => { x with b := v }

/-- One value computed for each head. -/
def forHeads {α : Type} (f : Head → α) : PerHead α := ⟨f .a, f .b⟩

/-! ## Words -/

/-- The fields of `cfg` that a data word carries; bits [31:19] are discarded (R51, R311). -/
def cfgOfData (data : Word) : Cfg where
  dwellClass := data.extractLsb' 0 8
  timeoutClass := data.extractLsb' 8 8
  randomized := data.getLsbD 16
  searchlight := data.getLsbD 17
  invert := data.getLsbD 18

/-- A field placed at a bit position of a response word. -/
def placed {n : Nat} (v : BitVec n) (pos : Nat) : Word := v.setWidth 32 <<< pos

/-- A one-bit field placed at a bit position of a response word. -/
def placedBit (b : Bool) (pos : Nat) : Word := placed (BitVec.ofBool b) pos

/-- `zext_32(cfg)`: the five fields at their places (R51, R313 page 2). -/
def cfgBits (c : Cfg) : Word :=
  placed c.dwellClass 0 ||| placed c.timeoutClass 8 ||| placedBit c.randomized 16
    ||| placedBit c.searchlight 17 ||| placedBit c.invert 18

/-- A 5-bit counter advanced by one modulo `n` (R219, R220). -/
def incMod (x : Level) (n : Nat) : Level := BitVec.ofNat 5 ((x.toNat + 1) % n)

end Sys2Proof.Machine
end

