-- ==== Sys2Proof/Machine/Flags.lean ====
section
/-! DEFINITION. The one-bit values the block computes: occupancy and lock tests, timer expiry, the debounce decision, the
head and indicator projections, the line values. The block has no condition codes (10_state R55). -/

namespace Sys2Proof.Machine

open Sys2Proof.Config

/-! ## Guards of the state machine and the lock -/

/-- `occA = db_stable[0]`, `occB = db_stable[1]` (R260). -/
def occ (s : State) : Approach → Bool
  | .a => s.dbStable.getLsbD 0
  | .b => s.dbStable.getLsbD 1

/-- `occJ = db_stable[2]` (R260). -/
def occJ (s : State) : Bool := s.dbStable.getLsbD 2

/-- A timer has expired exactly when it is 0 (R147). -/
def expired (s : State) (t : Timer) : Bool := readTimer s.tmr t == 0

/-- The lock can be acquired: unheld, and the junction reads clear (R261). -/
def lockAvailable (s : State) : Bool := !s.locked && !occJ s

/-- CLEARING may be left with respect to the junction: `STRICT_CLEARING = 0 or occJ = 0` (R273). -/
def clearingDone (P : Params) (s : State) : Bool := !P.strictClearing || !occJ s

/-! ## Debounce (R171) -/

/-- The throttle test: `((ms - db_last) mod 2^32) >= DB_INTERVAL`. -/
def updateDue (P : Params) (s : State) : Bool := decide (P.dbInterval ≤ (s.ms - s.dbLast).toNat)

/-- A lane's history with a sample shifted into bit 0. -/
def shiftIn (hist : Byte) (sample : Bool) : Byte := (hist <<< 1) ||| (BitVec.ofBool sample).setWidth 8

/-- A lane's stable bit after its history became `hist`: 1 on all ones, 0 on all zeros, else kept. -/
def stableAfter (hist : Byte) (old : Bool) : Bool :=
  if hist = 0xFF then true else if hist = 0x00 then false else old

/-! ## Projections (R278, R279) -/

/-- `fsm_state ∈ {CLEARANCE, TIMEOUT}`. -/
def granting : InterlockState → Bool
  | .idle => false
  | .delay => false
  | .request => false
  | .clearance => true
  | .timeout => true
  | .occupied => false
  | .lockout => false
  | .clearing => false
  | .reset => false

/-- `AspectOf(h)` (R278). -/
def aspectOf (s : State) (h : Head) : Aspect :=
  if granting s.fsmState && s.holder == some (dirOf h) then .green else .red

/-- `ind(d)`: STEADY 1 in DELAY, FLASH 2 in REQUEST, for the holder; OFF 0 otherwise (R279). -/
def ind (s : State) (d : Approach) : BitVec 2 :=
  if s.fsmState = .delay ∧ s.holder = some d then 1
  else if s.fsmState = .request ∧ s.holder = some d then 2
  else 0

/-- `waiting` (R279). -/
def waiting (s : State) : Bool := s.fsmState == .timeout

/-! ## The aspect driver -/

/-- Each channel's target level: `TargetLevels({f, a}, ph)` (R214). -/
def targetLevels (P : Params) (r : AspectReg) (phase : Bool) : PerChannel Level :=
  if r.flash && phase then ⟨0, 0⟩
  else match r.aspect with
    | .off => ⟨0, 0⟩
    | .red => ⟨BitVec.ofNat 5 P.levelMax, 0⟩
    | .green => ⟨0, BitVec.ofNat 5 P.levelMax⟩

/-- One channel's fade step toward its target; with the searchlight style a channel rises only while the head's other
channel was at 0 (R217, R218). -/
def fadeLevel (searchlight : Bool) (old other goal : Level) : Level :=
  if goal < old then old - 1
  else if old < goal then (if !searchlight || other == 0 then old + 1 else old)
  else old

/-- A line's value: `(slice < level) XOR invert` (R226). -/
def lineValue (slice lvl : Level) (invert : Bool) : Bool := Bool.xor (decide (slice < lvl)) invert

/-- `Duty(L) = L if invert = 0 else PWM_SLICES - L` (R220). -/
def duty (P : Params) (invert : Bool) (lvl : Level) : Nat := if invert then P.pwmSlices - lvl.toNat else lvl.toNat

end Sys2Proof.Machine
end

