-- ==== Sys2Proof/Machine/Ops.lean ====
section
/-! DEFINITION. The operations the meanings share: the response of a command, the one exception (60_exceptions R330),
RESET (70_reset R360), the junction lock, the dwell computation and its draw, the arm values, the debounce update and
the timer part of a TICK. The block has no memory (R80) and no return from an exception (R333). -/

namespace Sys2Proof.Machine

open Sys2Proof.Config

/-! ## Responses and the exception -/

/-- `resp <- v`: the response of a command step, which emits no Frame event (R54, R227; log 3). -/
def respond (v : Word) (s : State) : State := { s with resp := some v, frames := [] }

/-- `raise IllegalCommand(cmd)`: `err_cmd` takes the first illegal word, `err` is set, the response is 0, and no other
register is written (R330, R332). -/
def raiseIllegal (cmd : CmdWord) (s : State) : State :=
  respond 0 { s with err := true, errCmd := if s.err then s.errCmd else cmd }

/-- RESET: every register at its reset value, no response, no Frame event (R360). The schedule of later inputs stays the
environment's (log 1), and the draw counter goes on so that later draws are fresh (log 4). -/
def resetBlock (s : State) : State := { State.reset with inputs := s.inputs, drawCount := s.drawCount }

/-! ## Junction lock -/

/-- The writes of a successful acquisition by `d` (R261). -/
def grantLock (d : Approach) (s : State) : State := { s with locked := true, lockHolder := some d }

/-- `LockAcquire(d)`: the atomic test-and-set, with its result (R261). -/
def lockAcquire (d : Approach) (s : State) : Bool × State :=
  if lockAvailable s then (true, grantLock d s) else (false, s)

/-- `LockRelease()` (R262). -/
def lockRelease (s : State) : State := { s with locked := false, lockHolder := none }

/-! ## Dwell -/

/-- `SeedIfNeeded()` (R194). -/
def seedIfNeeded (s : State) : State := if s.rngSeeded then s else { s with rngSeed := s.ms, rngSeeded := true }

/-- The whole numbers `lo, lo+1, ..., hi` (R192). -/
def secondsRange (lo hi : Nat) : List Nat := List.range' lo (hi + 1 - lo)

/-- The set a class draws from: its range, and for a BIMODAL class the nominal delay too (R192). -/
def dwellChoices (P : Params) (row : DwellRow) : List Nat :=
  match row.skew with
  | .none => secondsRange row.minS row.maxS
  | .bimodal => P.dwellNominalS :: secondsRange row.minS row.maxS

/-- The element of a non-empty list that a raw number selects. -/
def pick (choices : List Nat) (raw : Nat) : Nat := choices.getD (raw % choices.length) 0

/-- `draw(S)` for class `k`: a free element of the set, and the counter of draws advanced (R193; log 4). -/
def draw (P : Params) (k : Nat) (choices : List Nat) (s : State) : Nat × State :=
  (pick choices (P.rng s.rngSeed s.drawCount k), { s with drawCount := s.drawCount + 1 })

/-- `min(k, N - 1)`: a class index clamped to a table of `N` entries (R190, R276). -/
def clampClass (k : Byte) (n : Nat) : Nat := min k.toNat (n - 1)

/-- `DwellSeconds(k, r)` with the state it leaves (R192). The row asked for exists in every table that R11 accepts. -/
def dwellSeconds (P : Params) (k : Byte) (r : Bool) (s : State) : Nat × State :=
  let k' := clampClass k P.dwellClasses
  if r then
    draw P k' (dwellChoices P (P.dwellTable.getD k' ⟨0, 0, .none⟩)) (seedIfNeeded s)
  else (k' * P.dwellStepS, s)

/-! ## Arm values (R276) -/

/-- Seconds as ticks, modulo 2^32. -/
def ticksOf (P : Params) (secs : Nat) : Word := BitVec.ofNat 32 (secs * P.ticksPerS)

/-- `TimeoutTicks()`. -/
def timeoutTicks (P : Params) (s : State) : Word :=
  ticksOf P (P.timeoutS.getD (clampClass s.cfg.timeoutClass P.timeoutClasses) 0)

/-- The lockout arm value `LOCKOUT_TICKS`. -/
def lockoutArm (P : Params) : Word := BitVec.ofNat 32 P.lockoutTicks

/-- `tmr[t] <- v` (R144). -/
def armTimer (t : Timer) (v : Word) (s : State) : State := { s with tmr := writeTimer s.tmr t v }

/-! ## Debounce -/

/-- The writes of an accepted update: all lanes shift and each decides its stable bit by itself (R171, R172). -/
def acceptSample (raw : Byte) (s : State) : State :=
  let hist : Vector Byte 8 := Vector.ofFn fun b : Fin 8 => shiftIn s.dbHist[b] (raw.getLsbD b)
  { s with
    dbLast := s.ms
    dbHist := hist
    dbStable := BitVec.ofFnLE fun b : Fin 8 => stableAfter hist[b] (s.dbStable.getLsbD b) }

/-- One offered sample: accepted if the throttle test passes, else discarded (R171). -/
def offerSample (P : Params) (raw : Byte) (s : State) : State := if updateDue P s then acceptSample raw s else s

/-! ## The timer part of a TICK -/

/-- One timer's decrement, kept at 0 (R143). -/
def countDown (v : Word) : Word := if v = 0 then 0 else v - 1

/-- `TickTimers()` (R143). -/
def tickTimers (tmr : Timers) : Timers := ⟨countDown tmr.delay, countDown tmr.timeout, countDown tmr.lockout⟩

end Sys2Proof.Machine
end

