-- ==== Sys2Proof/Machine/Aspect.lean ====
section
/-! DEFINITION. The meanings of ASPECT_SET, ASPECT_SYNC and PWM_READ (43_aspect_driver). -/

namespace Sys2Proof.Machine

/-- ASPECT_SET (R211): aspect code 3 names no aspect and raises IllegalCommand (R113). -/
def execAspectSet (h : Head) (aspect : Selector) (flash : Bool) (s : State) : Host.Outcome State Fault Refusal :=
  match aspectOfCode aspect with
  | some a => .next (respond 0 { s with aspectReg := setHead s.aspectReg h ⟨flash, a⟩ })
  | none => .next (raiseIllegal (Instr.word (.aspectSet h aspect flash)) s)

/-- ASPECT_SYNC (R212). -/
def execAspectSync (s : State) : Host.Outcome State Fault Refusal :=
  .next (respond 0 { s with aspectReg := forHeads fun h => ⟨false, aspectOf s h⟩ })

/-- The word PWM_READ returns (R213). -/
def pwmWord (s : State) (h : Head) : Word :=
  placed (atHead s.level h).r 0 ||| placed (atHead s.level h).g 5
    ||| placed (atHead s.target h).r 10 ||| placed (atHead s.target h).g 15
    ||| placed s.slice 20 ||| placed s.frame 25 ||| placedBit s.flashPhase 30

/-- PWM_READ (R213). -/
def execPwmRead (h : Head) (s : State) : Host.Outcome State Fault Refusal := .next (respond (pwmWord s h) s)

end Sys2Proof.Machine
end

