-- ==== Sys2Proof/Machine/Control.lean ====
section
/-! DEFINITION. The meanings of NOP, CFG_WRITE and STATUS_READ (45_control). -/

namespace Sys2Proof.Machine

/-- NOP (R310). -/
def execNop (s : State) : Host.Outcome State Fault Refusal := .next (respond 0 s)

/-- CFG_WRITE (R311). -/
def execCfgWrite (data : Word) (s : State) : Host.Outcome State Fault Refusal :=
  .next (respond 0 { s with cfg := cfgOfData data })

/-- Page 0 of STATUS_READ (R313). -/
def statusWord (s : State) : Word :=
  placed (fsmCode s.fsmState) 0 ||| placed (directionCode s.holder) 4 ||| placedBit s.locked 6
    ||| placed (directionCode s.lockHolder) 7
    ||| placed (aspectCode s.aspectReg.a.aspect) 9 ||| placedBit s.aspectReg.a.flash 11
    ||| placed (aspectCode s.aspectReg.b.aspect) 12 ||| placedBit s.aspectReg.b.flash 14
    ||| placed (ind s .a) 15 ||| placed (ind s .b) 17 ||| placedBit (waiting s) 19
    ||| placedBit s.err 20 ||| placedBit s.rngSeeded 21

/-- The word of each page of STATUS_READ (R313). -/
def pageWord (s : State) : Page → Word
  | .status => statusWord s
  | .errCmd => s.errCmd.setWidth 32
  | .cfg => cfgBits s.cfg
  | .dbLast => s.dbLast

/-- STATUS_READ (R313). -/
def execStatusRead (p : Page) (s : State) : Host.Outcome State Fault Refusal := .next (respond (pageWord s p) s)

end Sys2Proof.Machine
end

