-- ==== Sys2Proof/Machine/Debounce.lean ====
section
/-! DEFINITION. The meanings of DB_UPDATE and DB_READ (41_debounce). -/

namespace Sys2Proof.Machine

/-- DB_UPDATE (R171). -/
def execDbUpdate (raw : Byte) (s : State) : Host.Outcome State Fault Refusal :=
  .next (respond 0 (offerSample Config.params raw s))

/-- DB_READ (R173). -/
def execDbRead (s : State) : Host.Outcome State Fault Refusal := .next (respond (s.dbStable.setWidth 32) s)

end Sys2Proof.Machine
end

