-- ==== Sys2Proof/Machine/Dwell.lean ====
section
/-! DEFINITION. The meaning of DWELL (42_dwell). -/

namespace Sys2Proof.Machine

/-- DWELL with a parameter record: the seconds as the response, in the state the computation leaves (R195). -/
def dwellCommand (P : Config.Params) (cls : Byte) (randomized : Bool) (s : State) : State :=
  let (secs, s') := dwellSeconds P cls randomized s
  respond (BitVec.ofNat 32 secs) s'

/-- DWELL (R195). -/
def execDwell (cls : Byte) (randomized : Bool) (s : State) : Host.Outcome State Fault Refusal :=
  .next (dwellCommand Config.params cls randomized s)

end Sys2Proof.Machine
end

