-- ==== Sys2Proof/Machine/Interlocking.lean ====
section
/-! DEFINITION. The meanings of LOCK_REQ, LOCK_CLR and FSM_STEP (44_interlocking). -/

namespace Sys2Proof.Machine

open Sys2Proof.Config

/-- LOCK_REQ (R263): selectors 0 and 3 name no direction and raise IllegalCommand (R113). -/
def execLockReq (d : Selector) (s : State) : Host.Outcome State Fault Refusal :=
  match approachOf d with
  | some x => .next (respond ((BitVec.ofBool (lockAcquire x s).1).setWidth 32) (lockAcquire x s).2)
  | none => .next (raiseIllegal (Instr.word (.lockReq d)) s)

/-- LOCK_CLR (R264). -/
def execLockClr (s : State) : Host.Outcome State Fault Refusal := .next (respond 0 (lockRelease s))

/-! ## The state machine: one transition at most (R265) -/

/-- `fsm_state <- x`. -/
def goto (x : InterlockState) (s : State) : State := { s with fsmState := x }

/-- `EnterReset()`: LockRelease, the holder cleared, the RESET state (R275, R262). -/
def enterReset (s : State) : State :=
  { s with locked := false, lockHolder := none, holder := none, fsmState := .reset }

/-- `Pick(d)`: serve `d` and arm the delay with `DelayTicks()` (R266, R276). -/
def pickApproach (P : Params) (d : Approach) (s : State) : State :=
  let (secs, s') := dwellSeconds P s.cfg.dwellClass s.cfg.randomized { s with holder := some d }
  goto .delay (armTimer .delay (ticksOf P secs) s')

/-- The holder's approach, which exists wherever a run needs it (R283); a state no run reaches stops (log 6). -/
def withHolder (s : State) (f : Approach → State) : Except Fault State :=
  match s.holder with
  | some d => .ok (f d)
  | none => .error .holderNone

/-- IDLE (R266): approach A is tested first. -/
def fromIdle (P : Params) (s : State) : State :=
  if occ s .a && expired s .lockout then pickApproach P .a s
  else if occ s .b && expired s .lockout then pickApproach P .b s
  else s

/-- DELAY (R267). -/
def fromDelay (s : State) : State := if expired s .delay then goto .request s else s

/-- REQUEST (R268): the acquisition's own writes are part of the guard's success. -/
def fromRequest (d : Approach) (s : State) : State :=
  if (lockAcquire d s).1 then goto .clearance (lockAcquire d s).2 else s

/-- CLEARANCE with the junction clear (R269, second guard). -/
def fromClearance (P : Params) (d : Approach) (s : State) : State :=
  if !occ s d then goto .timeout (armTimer .timeout (timeoutTicks P s) s) else s

/-- TIMEOUT with the junction clear (R270, second and third guards). -/
def fromTimeout (d : Approach) (s : State) : State :=
  if occ s d then goto .clearance (armTimer .timeout 0 s)
  else if expired s .timeout then enterReset s
  else s

/-- OCCUPIED with the junction occupied (R271, second guard). -/
def fromOccupied (d : Approach) (s : State) : State := if occ s (opp d) then goto .clearing s else s

/-- LOCKOUT (R272). -/
def fromLockout (s : State) : State := if expired s .lockout then enterReset s else s

/-- CLEARING (R273). -/
def fromClearing (P : Params) (d : Approach) (s : State) : State :=
  if !occ s (opp d) && clearingDone P s then enterReset s else s

/-- The case analysis of FSM_STEP: the first guard of the current state that holds (R277). -/
def fsmTransition (P : Params) (s : State) : Except Fault State :=
  match s.fsmState with
  | .idle => .ok (fromIdle P s)
  | .delay => .ok (fromDelay s)
  | .request => withHolder s fun d => fromRequest d s
  | .clearance => if occJ s then .ok (goto .occupied s) else withHolder s fun d => fromClearance P d s
  | .timeout => if occJ s then .ok (goto .occupied s) else withHolder s fun d => fromTimeout d s
  | .occupied =>
    if occJ s then withHolder s fun d => fromOccupied d s
    else .ok (goto .lockout (armTimer .lockout (lockoutArm P) s))
  | .lockout => .ok (fromLockout s)
  | .clearing => withHolder s fun d => fromClearing P d s
  | .reset => .ok (goto .idle s)

/-- FSM_STEP with a parameter record (R277). -/
def fsmCommand (P : Params) (s : State) : Host.Outcome State Fault Refusal :=
  match fsmTransition P s with
  | .ok s' => .next (respond 0 s')
  | .error f => .fault f

/-- FSM_STEP (R277). -/
def execFsmStep (s : State) : Host.Outcome State Fault Refusal := fsmCommand Config.params s

end Sys2Proof.Machine
end

