-- ==== Sys2Proof/Machine/Pwm.lean ====
section
/-! DEFINITION. TICK and the aspect driver's part of it (43_aspect_driver R216 to R220). Each register's value after the
TICK is one function of the state before it: TickPWM drives its outputs from the values at the start of the TICK (R226),
the parts of a TICK touch disjoint registers (R141), and only the fade step reads a value of the same TICK, the target a
cycle boundary has just recomputed (R219). -/

namespace Sys2Proof.Machine

open Sys2Proof.Config

/-! ## Outputs -/

/-- The Frame event of one head (R227). -/
def frameEvent (P : Params) (s : State) (h : Head) : FrameEvent :=
  ⟨h, duty P s.cfg.invert (atHead s.level h).r, duty P s.cfg.invert (atHead s.level h).g⟩

/-- At the first slice of a frame one event for each head, head A first; at any other slice none (R220, R227). -/
def tickFrames (P : Params) (s : State) : List FrameEvent :=
  if s.slice = 0 then [frameEvent P s .a, frameEvent P s .b] else []

/-- Every line's value in this slice (R226). -/
def tickLine (s : State) : PerHead (PerChannel Bool) :=
  forHeads fun h =>
    ⟨lineValue s.slice (atHead s.level h).r s.cfg.invert, lineValue s.slice (atHead s.level h).g s.cfg.invert⟩

/-! ## Boundaries -/

/-- `slice = PWM_SLICES - 1`: the TICK of a frame boundary (R219). -/
def frameEnd (P : Params) (s : State) : Bool := s.slice.toNat == P.pwmSlices - 1

/-- A frame boundary in the last frame of a cycle: the TICK of a cycle boundary (R219, first item). -/
def cycleEnd (P : Params) (s : State) : Bool := frameEnd P s && s.frame.toNat == P.framesPerCycle - 1

/-- The flasher phase: toggled at a cycle boundary (R216). -/
def tickPhase (P : Params) (s : State) : Bool := if cycleEnd P s then !s.flashPhase else s.flashPhase

/-- The targets: recomputed at a cycle boundary, with the new phase (R216). -/
def tickTarget (P : Params) (s : State) : PerHead (PerChannel Level) :=
  if cycleEnd P s then forHeads fun h => targetLevels P (atHead s.aspectReg h) (tickPhase P s) else s.target

/-- One head's fade step from the levels before it (R217). -/
def fadeHead (searchlight : Bool) (old goal : PerChannel Level) : PerChannel Level :=
  ⟨fadeLevel searchlight old.r old.g goal.r, fadeLevel searchlight old.g old.r goal.g⟩

/-- `FadeStep()`: every head from its levels toward its targets (R217, R218). -/
def fadeStep (searchlight : Bool) (old goal : PerHead (PerChannel Level)) : PerHead (PerChannel Level) :=
  forHeads fun h => fadeHead searchlight (atHead old h) (atHead goal h)

/-- The levels: one fade step at a frame boundary, toward the targets as this TICK leaves them (R219, second item). -/
def tickLevel (P : Params) (s : State) : PerHead (PerChannel Level) :=
  if frameEnd P s then fadeStep s.cfg.searchlight s.level (tickTarget P s) else s.level

/-- `frame`: advanced at a frame boundary (R219, third item). -/
def tickFrame (P : Params) (s : State) : Level := if frameEnd P s then incMod s.frame P.framesPerCycle else s.frame

/-! ## The TICK -/

/-- One tick of the block: TickTimebase, TickTimers and TickPWM; it produces no response (R141, R54). -/
def tickBlock (P : Params) (s : State) : State :=
  { s with
    ms := s.ms + 1
    tmr := tickTimers s.tmr
    frames := tickFrames P s
    line := tickLine s
    flashPhase := tickPhase P s
    target := tickTarget P s
    level := tickLevel P s
    frame := tickFrame P s
    slice := incMod s.slice P.pwmSlices
    resp := none }

end Sys2Proof.Machine
end

