-- ==== Sys2Proof/Machine/Timebase.lean ====
section
/-! DEFINITION. The meanings of TICK, TMR_ARM, TMR_READ and MS_READ (40_timebase_timers). -/

namespace Sys2Proof.Machine

/-- TICK (R141). -/
def execTick (s : State) : Host.Outcome State Fault Refusal := .next (tickBlock Config.params s)

/-- TMR_ARM (R144): selector 3 names no timer and raises IllegalCommand (R113). -/
def execTmrArm (t : Selector) (value : Word) (s : State) : Host.Outcome State Fault Refusal :=
  match timerOf t with
  | some u => .next (respond 0 (armTimer u value s))
  | none => .next (raiseIllegal (Instr.word (.tmrArm t value)) s)

/-- TMR_READ (R145). -/
def execTmrRead (t : Timer) (s : State) : Host.Outcome State Fault Refusal := .next (respond (readTimer s.tmr t) s)

/-- MS_READ (R146). -/
def execMsRead (s : State) : Host.Outcome State Fault Refusal := .next (respond s.ms s)

end Sys2Proof.Machine
end

