-- ==== Sys2Proof/Machine/Dispatch.lean ====
section
/-! DEFINITION. The meaning of each instruction, one arm for each constructor of Instr. -/

namespace Sys2Proof.Machine

-- the arms stand in the order of spec/opcode_table.json
def exec (i : Instr) (s : State) : Host.Outcome State Fault Refusal :=
  match i with
  | .nop => Sys2Proof.Machine.execNop s
  | .tmrArm t value => Sys2Proof.Machine.execTmrArm t value s
  | .tmrRead t => Sys2Proof.Machine.execTmrRead t s
  | .msRead => Sys2Proof.Machine.execMsRead s
  | .dbUpdate raw => Sys2Proof.Machine.execDbUpdate raw s
  | .dbRead => Sys2Proof.Machine.execDbRead s
  | .dwell cls randomized => Sys2Proof.Machine.execDwell cls randomized s
  | .lockReq d => Sys2Proof.Machine.execLockReq d s
  | .lockClr => Sys2Proof.Machine.execLockClr s
  | .aspectSet h aspect flash => Sys2Proof.Machine.execAspectSet h aspect flash s
  | .fsmStep => Sys2Proof.Machine.execFsmStep s
  | .cfgWrite data => Sys2Proof.Machine.execCfgWrite data s
  | .aspectSync => Sys2Proof.Machine.execAspectSync s
  | .statusRead p => Sys2Proof.Machine.execStatusRead p s
  | .pwmRead h => Sys2Proof.Machine.execPwmRead h s
  | .tick => Sys2Proof.Machine.execTick s

end Sys2Proof.Machine
end

