-- ==== Sys2Proof/Machine/Ports.lean ====
section
/-! DEFINITION. The ports: running one input step, what an undecodable word does on each port (30_encoding R115,
60_exceptions R330), presenting a word, and the hardware's order of simultaneous arrivals (R336). -/

namespace Sys2Proof.Machine

/-- The state with the next input step taken from the schedule. -/
def afterInput (rest : List Input) (s : State) : State := { s with inputs := rest }

/-- An input step placed before all those still to come. -/
def presentNext (e : Input) (s : State) : State := { s with inputs := e :: s.inputs }

/-- A word on the command port: its command, or IllegalCommand (R115, R330). -/
def takeCommand (cmd : CmdWord) (data : Word) (s : State) : Host.Outcome State Fault Refusal :=
  match decode .command cmd data with
  | .ok i => exec i s
  | .error _ => .next (raiseIllegal cmd s)

/-- A word on the tick port: TICK; any other word cannot occur and is refused (R115, R120, I17; log 7). -/
def takeTickWord (w : CmdWord) (s : State) : Host.Outcome State Fault Refusal :=
  match decode .tick w 0 with
  | .ok i => exec i s
  | .error _ => .refused .tickPortWord

/-- One input step, taken whole (R14, R83). -/
def takeInput (e : Input) (s : State) : Host.Outcome State Fault Refusal :=
  match e with
  | .reset => .next (resetBlock s)
  | .tickPort w => takeTickWord w s
  | .command cmd data => takeCommand cmd data s

/-- What arrives at one instant, and a tick event that arrives while the command of that instant executes. -/
structure Arrivals where
  reset : Bool
  tick : Bool
  command : Option (CmdWord × Word)
  lateTick : Bool
deriving DecidableEq, Repr

/-- The steps the hardware takes for them, in its order: RESET first, and then the pending tick and the command are
discarded; else the TICK, then the command, then the tick that came during it (R336, R92, R363; log 10). -/
def arrivalSteps (x : Arrivals) : List Input :=
  if x.reset then [.reset]
  else (if x.tick then [.tickPort 0xF000] else [])
    ++ (match x.command with | some (cmd, data) => [.command cmd data] | none => [])
    ++ (if x.lateTick then [.tickPort 0xF000] else [])

end Sys2Proof.Machine
end

