-- ==== Sys2Proof/Machine/Step.lean ====
section
/-! DEFINITION. One step of the block: the next input step of the schedule, taken whole (20_memory R83). -/

namespace Sys2Proof.Machine

/-- One step (R14): RESET, a TICK or a command. With no input step left nothing happens and every register keeps its
value (R345; log 1). -/
def step (s : State) : Host.Outcome State Fault Refusal :=
  match s.inputs with
  | [] => .next s
  | e :: rest => takeInput e (afterInput rest s)

/-- An opcode-table word presented on its port as the next input step (log 2). -/
def State.withFetchWord (s : State) (nbits w : Nat) : State := presentNext (present nbits w) s

end Sys2Proof.Machine
end

