-- ==== Sys2Proof/Safety.lean ====
section
/-! DEFINITION. What counts as a safe run of the block: the invariants of 44_interlocking R281 to R286 with the scope of
R289, the debounce invariant of 41_debounce R174, and runs over a schedule of input steps. -/

namespace Sys2Proof.Machine

/-! ## The scope of the invariants (R289) -/

/-- The four commands that write the state machine's timers, lock or head aspects directly (R289). -/
def directWrite : Instr → Bool
  | .nop => false
  | .tmrArm _ _ => true
  | .tmrRead _ => false
  | .msRead => false
  | .dbUpdate _ => false
  | .dbRead => false
  | .dwell _ _ => false
  | .lockReq _ => true
  | .lockClr => true
  | .aspectSet _ _ _ => true
  | .fsmStep => false
  | .cfgWrite _ => false
  | .aspectSync => false
  | .statusRead _ => false
  | .pwmRead _ => false
  | .tick => false

/-- An input step that decodes to a direct-write command. -/
def directWriteInput (e : Input) : Bool :=
  match decodeInput e with
  | some (.ok i) => directWrite i
  | _ => false

/-- A schedule in which the host issues none of the direct-write commands (R289). -/
abbrev FsmOnly (q : List Input) : Prop := ∀ e ∈ q, directWriteInput e = false

/-! ## Invariants -/

/-- `fsm_state ∈ {CLEARANCE, TIMEOUT, OCCUPIED, LOCKOUT, CLEARING}` (R282). -/
def lockedState : InterlockState → Bool
  | .idle => false
  | .delay => false
  | .request => false
  | .clearance => true
  | .timeout => true
  | .occupied => true
  | .lockout => true
  | .clearing => true
  | .reset => false

/-- R283: `holder ≠ NONE` exactly when `fsm_state ∉ {IDLE, RESET}`. -/
abbrev HolderMatches (s : State) : Prop := s.holder ≠ none ↔ ¬(s.fsmState = .idle ∨ s.fsmState = .reset)

/-- R281, R43: `locked = 1` names exactly one direction, and a free lock records NONE. -/
abbrev LockRecord (s : State) : Prop := s.locked = s.lockHolder.isSome

/-- R282: the lock is held exactly in the locked states, by the holder, and a free lock records NONE. -/
abbrev LockMatches (s : State) : Prop :=
  s.locked = lockedState s.fsmState ∧ (s.locked = true → s.lockHolder = s.holder)
    ∧ (s.locked = false → s.lockHolder = none)

/-- R284: the lockout timer is 0 outside LOCKOUT. -/
abbrev LockoutQuiet (s : State) : Prop := s.fsmState ≠ .lockout → s.tmr.lockout = 0

/-- R285: the delay timer is 0 outside DELAY. -/
abbrev DelayQuiet (s : State) : Prop := s.fsmState ≠ .delay → s.tmr.delay = 0

/-- What R282 to R285 say of a state of a run covered by R289, with the rest of its schedule. -/
abbrev FsmRun (s : State) : Prop :=
  HolderMatches s ∧ LockMatches s ∧ LockoutQuiet s ∧ DelayQuiet s ∧ FsmOnly s.inputs

/-- Both heads' commanded aspects are the projection of the state machine, steady: what ASPECT_SYNC leaves (R212). -/
abbrev Projected (s : State) : Prop := ∀ h : Head, atHead s.aspectReg h = ⟨false, aspectOf s h⟩

/-- R286: a head commanded GREEN is the holder's, the lock is held for it, the machine is granting, and the other head
is RED. -/
abbrev GreenOnlyGranted (s : State) : Prop :=
  ((atHead s.aspectReg .a).aspect = .green → granting s.fsmState = true ∧ s.holder = some .a ∧ s.lockHolder = some .a
      ∧ s.locked = true ∧ (atHead s.aspectReg .b).aspect = .red)
    ∧ ((atHead s.aspectReg .b).aspect = .green → granting s.fsmState = true ∧ s.holder = some .b
      ∧ s.lockHolder = some .b ∧ s.locked = true ∧ (atHead s.aspectReg .a).aspect = .red)

/-- R174: a history of all ones comes with stable bit 1, and a history of all zeros with stable bit 0. -/
abbrev HistoryMatches (s : State) : Prop :=
  ∀ b : Fin 8, (s.dbHist[b] = 0xFF → s.dbStable.getLsbD b = true) ∧ (s.dbHist[b] = 0 → s.dbStable.getLsbD b = false)

/-- R52, R53: while no illegal command has been taken, `err_cmd` keeps its reset value. -/
abbrev ErrRecord (s : State) : Prop := s.err = false → s.errCmd = 0

/-- I22: before the first randomized dwell, `rng_seed` keeps its reset value. -/
abbrev SeedRecord (s : State) : Prop := s.rngSeeded = false → s.rngSeed = 0

/-- The invariants that hold in every run, whatever the host issues. -/
abbrev EveryRun (s : State) : Prop :=
  HolderMatches s ∧ LockRecord s ∧ HistoryMatches s ∧ ErrRecord s ∧ SeedRecord s

/-! ## Runs -/

/-- The state with a schedule of input steps to take. -/
def withInputs (q : List Input) (s : State) : State := { s with inputs := q }

/-- `k` TICK steps on the tick port. -/
def tickInputs (k : Nat) : List Input := List.replicate k (.tickPort 0xF000)

/-- The next step is a TICK. -/
def ticksNext (s : State) : Bool := s.inputs.head? == some (.tickPort 0xF000)

/-- How many of the first `n` steps of a run `st` are TICK steps. -/
def ticksIn (st : Nat → State) (n : Nat) : Nat := (List.range n).countP fun k => ticksNext (st k)

/-- A run from RESET over a schedule: the outcome of its first `k` steps. -/
def runFromReset (q : List Input) (k : Nat) : Host.Outcome State Fault Refusal :=
  Host.Core.run Sys2Proof.core k (withInputs q State.reset)

end Sys2Proof.Machine
end

