-- ==== Sys2Proof/Laws/State.lean ====
section
/-! SUPPORT. One lemma for each field and each plain update of State: what the update writes, and what it leaves. -/

namespace Sys2Proof.Machine

/-! ## respond -/

@[simp] theorem respond_ms (v : Word) (s : State) : (respond v s).ms = s.ms := rfl
@[simp] theorem respond_tmr (v : Word) (s : State) : (respond v s).tmr = s.tmr := rfl
@[simp] theorem respond_dbHist (v : Word) (s : State) : (respond v s).dbHist = s.dbHist := rfl
@[simp] theorem respond_dbStable (v : Word) (s : State) : (respond v s).dbStable = s.dbStable := rfl
@[simp] theorem respond_dbLast (v : Word) (s : State) : (respond v s).dbLast = s.dbLast := rfl
@[simp] theorem respond_rngSeeded (v : Word) (s : State) : (respond v s).rngSeeded = s.rngSeeded := rfl
@[simp] theorem respond_rngSeed (v : Word) (s : State) : (respond v s).rngSeed = s.rngSeed := rfl
@[simp] theorem respond_fsmState (v : Word) (s : State) : (respond v s).fsmState = s.fsmState := rfl
@[simp] theorem respond_holder (v : Word) (s : State) : (respond v s).holder = s.holder := rfl
@[simp] theorem respond_locked (v : Word) (s : State) : (respond v s).locked = s.locked := rfl
@[simp] theorem respond_lockHolder (v : Word) (s : State) : (respond v s).lockHolder = s.lockHolder := rfl
@[simp] theorem respond_aspectReg (v : Word) (s : State) : (respond v s).aspectReg = s.aspectReg := rfl
@[simp] theorem respond_target (v : Word) (s : State) : (respond v s).target = s.target := rfl
@[simp] theorem respond_level (v : Word) (s : State) : (respond v s).level = s.level := rfl
@[simp] theorem respond_slice (v : Word) (s : State) : (respond v s).slice = s.slice := rfl
@[simp] theorem respond_frame (v : Word) (s : State) : (respond v s).frame = s.frame := rfl
@[simp] theorem respond_flashPhase (v : Word) (s : State) : (respond v s).flashPhase = s.flashPhase := rfl
@[simp] theorem respond_cfg (v : Word) (s : State) : (respond v s).cfg = s.cfg := rfl
@[simp] theorem respond_err (v : Word) (s : State) : (respond v s).err = s.err := rfl
@[simp] theorem respond_errCmd (v : Word) (s : State) : (respond v s).errCmd = s.errCmd := rfl
@[simp] theorem respond_line (v : Word) (s : State) : (respond v s).line = s.line := rfl
@[simp] theorem respond_resp (v : Word) (s : State) : (respond v s).resp = some v := rfl
@[simp] theorem respond_frames (v : Word) (s : State) : (respond v s).frames = [] := rfl
@[simp] theorem respond_inputs (v : Word) (s : State) : (respond v s).inputs = s.inputs := rfl
@[simp] theorem respond_drawCount (v : Word) (s : State) : (respond v s).drawCount = s.drawCount := rfl

/-! ## afterInput -/

@[simp] theorem afterInput_ms (rest : List Input) (s : State) : (afterInput rest s).ms = s.ms := rfl
@[simp] theorem afterInput_tmr (rest : List Input) (s : State) : (afterInput rest s).tmr = s.tmr := rfl
@[simp] theorem afterInput_dbHist (rest : List Input) (s : State) : (afterInput rest s).dbHist = s.dbHist := rfl
@[simp] theorem afterInput_dbStable (rest : List Input) (s : State) : (afterInput rest s).dbStable = s.dbStable := rfl
@[simp] theorem afterInput_dbLast (rest : List Input) (s : State) : (afterInput rest s).dbLast = s.dbLast := rfl
@[simp] theorem afterInput_rngSeeded (rest : List Input) (s : State) : (afterInput rest s).rngSeeded = s.rngSeeded := rfl
@[simp] theorem afterInput_rngSeed (rest : List Input) (s : State) : (afterInput rest s).rngSeed = s.rngSeed := rfl
@[simp] theorem afterInput_fsmState (rest : List Input) (s : State) : (afterInput rest s).fsmState = s.fsmState := rfl
@[simp] theorem afterInput_holder (rest : List Input) (s : State) : (afterInput rest s).holder = s.holder := rfl
@[simp] theorem afterInput_locked (rest : List Input) (s : State) : (afterInput rest s).locked = s.locked := rfl
@[simp] theorem afterInput_lockHolder (rest : List Input) (s : State) : (afterInput rest s).lockHolder = s.lockHolder := rfl
@[simp] theorem afterInput_aspectReg (rest : List Input) (s : State) : (afterInput rest s).aspectReg = s.aspectReg := rfl
@[simp] theorem afterInput_target (rest : List Input) (s : State) : (afterInput rest s).target = s.target := rfl
@[simp] theorem afterInput_level (rest : List Input) (s : State) : (afterInput rest s).level = s.level := rfl
@[simp] theorem afterInput_slice (rest : List Input) (s : State) : (afterInput rest s).slice = s.slice := rfl
@[simp] theorem afterInput_frame (rest : List Input) (s : State) : (afterInput rest s).frame = s.frame := rfl
@[simp] theorem afterInput_flashPhase (rest : List Input) (s : State) : (afterInput rest s).flashPhase = s.flashPhase := rfl
@[simp] theorem afterInput_cfg (rest : List Input) (s : State) : (afterInput rest s).cfg = s.cfg := rfl
@[simp] theorem afterInput_err (rest : List Input) (s : State) : (afterInput rest s).err = s.err := rfl
@[simp] theorem afterInput_errCmd (rest : List Input) (s : State) : (afterInput rest s).errCmd = s.errCmd := rfl
@[simp] theorem afterInput_line (rest : List Input) (s : State) : (afterInput rest s).line = s.line := rfl
@[simp] theorem afterInput_resp (rest : List Input) (s : State) : (afterInput rest s).resp = s.resp := rfl
@[simp] theorem afterInput_frames (rest : List Input) (s : State) : (afterInput rest s).frames = s.frames := rfl
@[simp] theorem afterInput_inputs (rest : List Input) (s : State) : (afterInput rest s).inputs = rest := rfl
@[simp] theorem afterInput_drawCount (rest : List Input) (s : State) : (afterInput rest s).drawCount = s.drawCount := rfl

/-! ## withInputs -/

@[simp] theorem withInputs_ms (q : List Input) (s : State) : (withInputs q s).ms = s.ms := rfl
@[simp] theorem withInputs_tmr (q : List Input) (s : State) : (withInputs q s).tmr = s.tmr := rfl
@[simp] theorem withInputs_dbHist (q : List Input) (s : State) : (withInputs q s).dbHist = s.dbHist := rfl
@[simp] theorem withInputs_dbStable (q : List Input) (s : State) : (withInputs q s).dbStable = s.dbStable := rfl
@[simp] theorem withInputs_dbLast (q : List Input) (s : State) : (withInputs q s).dbLast = s.dbLast := rfl
@[simp] theorem withInputs_rngSeeded (q : List Input) (s : State) : (withInputs q s).rngSeeded = s.rngSeeded := rfl
@[simp] theorem withInputs_rngSeed (q : List Input) (s : State) : (withInputs q s).rngSeed = s.rngSeed := rfl
@[simp] theorem withInputs_fsmState (q : List Input) (s : State) : (withInputs q s).fsmState = s.fsmState := rfl
@[simp] theorem withInputs_holder (q : List Input) (s : State) : (withInputs q s).holder = s.holder := rfl
@[simp] theorem withInputs_locked (q : List Input) (s : State) : (withInputs q s).locked = s.locked := rfl
@[simp] theorem withInputs_lockHolder (q : List Input) (s : State) : (withInputs q s).lockHolder = s.lockHolder := rfl
@[simp] theorem withInputs_aspectReg (q : List Input) (s : State) : (withInputs q s).aspectReg = s.aspectReg := rfl
@[simp] theorem withInputs_target (q : List Input) (s : State) : (withInputs q s).target = s.target := rfl
@[simp] theorem withInputs_level (q : List Input) (s : State) : (withInputs q s).level = s.level := rfl
@[simp] theorem withInputs_slice (q : List Input) (s : State) : (withInputs q s).slice = s.slice := rfl
@[simp] theorem withInputs_frame (q : List Input) (s : State) : (withInputs q s).frame = s.frame := rfl
@[simp] theorem withInputs_flashPhase (q : List Input) (s : State) : (withInputs q s).flashPhase = s.flashPhase := rfl
@[simp] theorem withInputs_cfg (q : List Input) (s : State) : (withInputs q s).cfg = s.cfg := rfl
@[simp] theorem withInputs_err (q : List Input) (s : State) : (withInputs q s).err = s.err := rfl
@[simp] theorem withInputs_errCmd (q : List Input) (s : State) : (withInputs q s).errCmd = s.errCmd := rfl
@[simp] theorem withInputs_line (q : List Input) (s : State) : (withInputs q s).line = s.line := rfl
@[simp] theorem withInputs_resp (q : List Input) (s : State) : (withInputs q s).resp = s.resp := rfl
@[simp] theorem withInputs_frames (q : List Input) (s : State) : (withInputs q s).frames = s.frames := rfl
@[simp] theorem withInputs_inputs (q : List Input) (s : State) : (withInputs q s).inputs = q := rfl
@[simp] theorem withInputs_drawCount (q : List Input) (s : State) : (withInputs q s).drawCount = s.drawCount := rfl

/-! ## armTimer -/

@[simp] theorem armTimer_ms (t : Timer) (v : Word) (s : State) : (armTimer t v s).ms = s.ms := rfl
@[simp] theorem armTimer_tmr (t : Timer) (v : Word) (s : State) : (armTimer t v s).tmr = writeTimer s.tmr t v := rfl
@[simp] theorem armTimer_dbHist (t : Timer) (v : Word) (s : State) : (armTimer t v s).dbHist = s.dbHist := rfl
@[simp] theorem armTimer_dbStable (t : Timer) (v : Word) (s : State) : (armTimer t v s).dbStable = s.dbStable := rfl
@[simp] theorem armTimer_dbLast (t : Timer) (v : Word) (s : State) : (armTimer t v s).dbLast = s.dbLast := rfl
@[simp] theorem armTimer_rngSeeded (t : Timer) (v : Word) (s : State) : (armTimer t v s).rngSeeded = s.rngSeeded := rfl
@[simp] theorem armTimer_rngSeed (t : Timer) (v : Word) (s : State) : (armTimer t v s).rngSeed = s.rngSeed := rfl
@[simp] theorem armTimer_fsmState (t : Timer) (v : Word) (s : State) : (armTimer t v s).fsmState = s.fsmState := rfl
@[simp] theorem armTimer_holder (t : Timer) (v : Word) (s : State) : (armTimer t v s).holder = s.holder := rfl
@[simp] theorem armTimer_locked (t : Timer) (v : Word) (s : State) : (armTimer t v s).locked = s.locked := rfl
@[simp] theorem armTimer_lockHolder (t : Timer) (v : Word) (s : State) : (armTimer t v s).lockHolder = s.lockHolder := rfl
@[simp] theorem armTimer_aspectReg (t : Timer) (v : Word) (s : State) : (armTimer t v s).aspectReg = s.aspectReg := rfl
@[simp] theorem armTimer_target (t : Timer) (v : Word) (s : State) : (armTimer t v s).target = s.target := rfl
@[simp] theorem armTimer_level (t : Timer) (v : Word) (s : State) : (armTimer t v s).level = s.level := rfl
@[simp] theorem armTimer_slice (t : Timer) (v : Word) (s : State) : (armTimer t v s).slice = s.slice := rfl
@[simp] theorem armTimer_frame (t : Timer) (v : Word) (s : State) : (armTimer t v s).frame = s.frame := rfl
@[simp] theorem armTimer_flashPhase (t : Timer) (v : Word) (s : State) : (armTimer t v s).flashPhase = s.flashPhase := rfl
@[simp] theorem armTimer_cfg (t : Timer) (v : Word) (s : State) : (armTimer t v s).cfg = s.cfg := rfl
@[simp] theorem armTimer_err (t : Timer) (v : Word) (s : State) : (armTimer t v s).err = s.err := rfl
@[simp] theorem armTimer_errCmd (t : Timer) (v : Word) (s : State) : (armTimer t v s).errCmd = s.errCmd := rfl
@[simp] theorem armTimer_line (t : Timer) (v : Word) (s : State) : (armTimer t v s).line = s.line := rfl
@[simp] theorem armTimer_resp (t : Timer) (v : Word) (s : State) : (armTimer t v s).resp = s.resp := rfl
@[simp] theorem armTimer_frames (t : Timer) (v : Word) (s : State) : (armTimer t v s).frames = s.frames := rfl
@[simp] theorem armTimer_inputs (t : Timer) (v : Word) (s : State) : (armTimer t v s).inputs = s.inputs := rfl
@[simp] theorem armTimer_drawCount (t : Timer) (v : Word) (s : State) : (armTimer t v s).drawCount = s.drawCount := rfl

/-! ## goto -/

@[simp] theorem goto_ms (x : InterlockState) (s : State) : (goto x s).ms = s.ms := rfl
@[simp] theorem goto_tmr (x : InterlockState) (s : State) : (goto x s).tmr = s.tmr := rfl
@[simp] theorem goto_dbHist (x : InterlockState) (s : State) : (goto x s).dbHist = s.dbHist := rfl
@[simp] theorem goto_dbStable (x : InterlockState) (s : State) : (goto x s).dbStable = s.dbStable := rfl
@[simp] theorem goto_dbLast (x : InterlockState) (s : State) : (goto x s).dbLast = s.dbLast := rfl
@[simp] theorem goto_rngSeeded (x : InterlockState) (s : State) : (goto x s).rngSeeded = s.rngSeeded := rfl
@[simp] theorem goto_rngSeed (x : InterlockState) (s : State) : (goto x s).rngSeed = s.rngSeed := rfl
@[simp] theorem goto_fsmState (x : InterlockState) (s : State) : (goto x s).fsmState = x := rfl
@[simp] theorem goto_holder (x : InterlockState) (s : State) : (goto x s).holder = s.holder := rfl
@[simp] theorem goto_locked (x : InterlockState) (s : State) : (goto x s).locked = s.locked := rfl
@[simp] theorem goto_lockHolder (x : InterlockState) (s : State) : (goto x s).lockHolder = s.lockHolder := rfl
@[simp] theorem goto_aspectReg (x : InterlockState) (s : State) : (goto x s).aspectReg = s.aspectReg := rfl
@[simp] theorem goto_target (x : InterlockState) (s : State) : (goto x s).target = s.target := rfl
@[simp] theorem goto_level (x : InterlockState) (s : State) : (goto x s).level = s.level := rfl
@[simp] theorem goto_slice (x : InterlockState) (s : State) : (goto x s).slice = s.slice := rfl
@[simp] theorem goto_frame (x : InterlockState) (s : State) : (goto x s).frame = s.frame := rfl
@[simp] theorem goto_flashPhase (x : InterlockState) (s : State) : (goto x s).flashPhase = s.flashPhase := rfl
@[simp] theorem goto_cfg (x : InterlockState) (s : State) : (goto x s).cfg = s.cfg := rfl
@[simp] theorem goto_err (x : InterlockState) (s : State) : (goto x s).err = s.err := rfl
@[simp] theorem goto_errCmd (x : InterlockState) (s : State) : (goto x s).errCmd = s.errCmd := rfl
@[simp] theorem goto_line (x : InterlockState) (s : State) : (goto x s).line = s.line := rfl
@[simp] theorem goto_resp (x : InterlockState) (s : State) : (goto x s).resp = s.resp := rfl
@[simp] theorem goto_frames (x : InterlockState) (s : State) : (goto x s).frames = s.frames := rfl
@[simp] theorem goto_inputs (x : InterlockState) (s : State) : (goto x s).inputs = s.inputs := rfl
@[simp] theorem goto_drawCount (x : InterlockState) (s : State) : (goto x s).drawCount = s.drawCount := rfl

/-! ## grantLock -/

@[simp] theorem grantLock_ms (d : Approach) (s : State) : (grantLock d s).ms = s.ms := rfl
@[simp] theorem grantLock_tmr (d : Approach) (s : State) : (grantLock d s).tmr = s.tmr := rfl
@[simp] theorem grantLock_dbHist (d : Approach) (s : State) : (grantLock d s).dbHist = s.dbHist := rfl
@[simp] theorem grantLock_dbStable (d : Approach) (s : State) : (grantLock d s).dbStable = s.dbStable := rfl
@[simp] theorem grantLock_dbLast (d : Approach) (s : State) : (grantLock d s).dbLast = s.dbLast := rfl
@[simp] theorem grantLock_rngSeeded (d : Approach) (s : State) : (grantLock d s).rngSeeded = s.rngSeeded := rfl
@[simp] theorem grantLock_rngSeed (d : Approach) (s : State) : (grantLock d s).rngSeed = s.rngSeed := rfl
@[simp] theorem grantLock_fsmState (d : Approach) (s : State) : (grantLock d s).fsmState = s.fsmState := rfl
@[simp] theorem grantLock_holder (d : Approach) (s : State) : (grantLock d s).holder = s.holder := rfl
@[simp] theorem grantLock_locked (d : Approach) (s : State) : (grantLock d s).locked = true := rfl
@[simp] theorem grantLock_lockHolder (d : Approach) (s : State) : (grantLock d s).lockHolder = some d := rfl
@[simp] theorem grantLock_aspectReg (d : Approach) (s : State) : (grantLock d s).aspectReg = s.aspectReg := rfl
@[simp] theorem grantLock_target (d : Approach) (s : State) : (grantLock d s).target = s.target := rfl
@[simp] theorem grantLock_level (d : Approach) (s : State) : (grantLock d s).level = s.level := rfl
@[simp] theorem grantLock_slice (d : Approach) (s : State) : (grantLock d s).slice = s.slice := rfl
@[simp] theorem grantLock_frame (d : Approach) (s : State) : (grantLock d s).frame = s.frame := rfl
@[simp] theorem grantLock_flashPhase (d : Approach) (s : State) : (grantLock d s).flashPhase = s.flashPhase := rfl
@[simp] theorem grantLock_cfg (d : Approach) (s : State) : (grantLock d s).cfg = s.cfg := rfl
@[simp] theorem grantLock_err (d : Approach) (s : State) : (grantLock d s).err = s.err := rfl
@[simp] theorem grantLock_errCmd (d : Approach) (s : State) : (grantLock d s).errCmd = s.errCmd := rfl
@[simp] theorem grantLock_line (d : Approach) (s : State) : (grantLock d s).line = s.line := rfl
@[simp] theorem grantLock_resp (d : Approach) (s : State) : (grantLock d s).resp = s.resp := rfl
@[simp] theorem grantLock_frames (d : Approach) (s : State) : (grantLock d s).frames = s.frames := rfl
@[simp] theorem grantLock_inputs (d : Approach) (s : State) : (grantLock d s).inputs = s.inputs := rfl
@[simp] theorem grantLock_drawCount (d : Approach) (s : State) : (grantLock d s).drawCount = s.drawCount := rfl

/-! ## lockRelease -/

@[simp] theorem lockRelease_ms (s : State) : (lockRelease s).ms = s.ms := rfl
@[simp] theorem lockRelease_tmr (s : State) : (lockRelease s).tmr = s.tmr := rfl
@[simp] theorem lockRelease_dbHist (s : State) : (lockRelease s).dbHist = s.dbHist := rfl
@[simp] theorem lockRelease_dbStable (s : State) : (lockRelease s).dbStable = s.dbStable := rfl
@[simp] theorem lockRelease_dbLast (s : State) : (lockRelease s).dbLast = s.dbLast := rfl
@[simp] theorem lockRelease_rngSeeded (s : State) : (lockRelease s).rngSeeded = s.rngSeeded := rfl
@[simp] theorem lockRelease_rngSeed (s : State) : (lockRelease s).rngSeed = s.rngSeed := rfl
@[simp] theorem lockRelease_fsmState (s : State) : (lockRelease s).fsmState = s.fsmState := rfl
@[simp] theorem lockRelease_holder (s : State) : (lockRelease s).holder = s.holder := rfl
@[simp] theorem lockRelease_locked (s : State) : (lockRelease s).locked = false := rfl
@[simp] theorem lockRelease_lockHolder (s : State) : (lockRelease s).lockHolder = none := rfl
@[simp] theorem lockRelease_aspectReg (s : State) : (lockRelease s).aspectReg = s.aspectReg := rfl
@[simp] theorem lockRelease_target (s : State) : (lockRelease s).target = s.target := rfl
@[simp] theorem lockRelease_level (s : State) : (lockRelease s).level = s.level := rfl
@[simp] theorem lockRelease_slice (s : State) : (lockRelease s).slice = s.slice := rfl
@[simp] theorem lockRelease_frame (s : State) : (lockRelease s).frame = s.frame := rfl
@[simp] theorem lockRelease_flashPhase (s : State) : (lockRelease s).flashPhase = s.flashPhase := rfl
@[simp] theorem lockRelease_cfg (s : State) : (lockRelease s).cfg = s.cfg := rfl
@[simp] theorem lockRelease_err (s : State) : (lockRelease s).err = s.err := rfl
@[simp] theorem lockRelease_errCmd (s : State) : (lockRelease s).errCmd = s.errCmd := rfl
@[simp] theorem lockRelease_line (s : State) : (lockRelease s).line = s.line := rfl
@[simp] theorem lockRelease_resp (s : State) : (lockRelease s).resp = s.resp := rfl
@[simp] theorem lockRelease_frames (s : State) : (lockRelease s).frames = s.frames := rfl
@[simp] theorem lockRelease_inputs (s : State) : (lockRelease s).inputs = s.inputs := rfl
@[simp] theorem lockRelease_drawCount (s : State) : (lockRelease s).drawCount = s.drawCount := rfl

/-! ## enterReset -/

@[simp] theorem enterReset_ms (s : State) : (enterReset s).ms = s.ms := rfl
@[simp] theorem enterReset_tmr (s : State) : (enterReset s).tmr = s.tmr := rfl
@[simp] theorem enterReset_dbHist (s : State) : (enterReset s).dbHist = s.dbHist := rfl
@[simp] theorem enterReset_dbStable (s : State) : (enterReset s).dbStable = s.dbStable := rfl
@[simp] theorem enterReset_dbLast (s : State) : (enterReset s).dbLast = s.dbLast := rfl
@[simp] theorem enterReset_rngSeeded (s : State) : (enterReset s).rngSeeded = s.rngSeeded := rfl
@[simp] theorem enterReset_rngSeed (s : State) : (enterReset s).rngSeed = s.rngSeed := rfl
@[simp] theorem enterReset_fsmState (s : State) : (enterReset s).fsmState = .reset := rfl
@[simp] theorem enterReset_holder (s : State) : (enterReset s).holder = none := rfl
@[simp] theorem enterReset_locked (s : State) : (enterReset s).locked = false := rfl
@[simp] theorem enterReset_lockHolder (s : State) : (enterReset s).lockHolder = none := rfl
@[simp] theorem enterReset_aspectReg (s : State) : (enterReset s).aspectReg = s.aspectReg := rfl
@[simp] theorem enterReset_target (s : State) : (enterReset s).target = s.target := rfl
@[simp] theorem enterReset_level (s : State) : (enterReset s).level = s.level := rfl
@[simp] theorem enterReset_slice (s : State) : (enterReset s).slice = s.slice := rfl
@[simp] theorem enterReset_frame (s : State) : (enterReset s).frame = s.frame := rfl
@[simp] theorem enterReset_flashPhase (s : State) : (enterReset s).flashPhase = s.flashPhase := rfl
@[simp] theorem enterReset_cfg (s : State) : (enterReset s).cfg = s.cfg := rfl
@[simp] theorem enterReset_err (s : State) : (enterReset s).err = s.err := rfl
@[simp] theorem enterReset_errCmd (s : State) : (enterReset s).errCmd = s.errCmd := rfl
@[simp] theorem enterReset_line (s : State) : (enterReset s).line = s.line := rfl
@[simp] theorem enterReset_resp (s : State) : (enterReset s).resp = s.resp := rfl
@[simp] theorem enterReset_frames (s : State) : (enterReset s).frames = s.frames := rfl
@[simp] theorem enterReset_inputs (s : State) : (enterReset s).inputs = s.inputs := rfl
@[simp] theorem enterReset_drawCount (s : State) : (enterReset s).drawCount = s.drawCount := rfl

/-! ## tickBlock -/

@[simp] theorem tickBlock_ms (P : Config.Params) (s : State) : (tickBlock P s).ms = s.ms + 1 := rfl
@[simp] theorem tickBlock_tmr (P : Config.Params) (s : State) : (tickBlock P s).tmr = tickTimers s.tmr := rfl
@[simp] theorem tickBlock_dbHist (P : Config.Params) (s : State) : (tickBlock P s).dbHist = s.dbHist := rfl
@[simp] theorem tickBlock_dbStable (P : Config.Params) (s : State) : (tickBlock P s).dbStable = s.dbStable := rfl
@[simp] theorem tickBlock_dbLast (P : Config.Params) (s : State) : (tickBlock P s).dbLast = s.dbLast := rfl
@[simp] theorem tickBlock_rngSeeded (P : Config.Params) (s : State) : (tickBlock P s).rngSeeded = s.rngSeeded := rfl
@[simp] theorem tickBlock_rngSeed (P : Config.Params) (s : State) : (tickBlock P s).rngSeed = s.rngSeed := rfl
@[simp] theorem tickBlock_fsmState (P : Config.Params) (s : State) : (tickBlock P s).fsmState = s.fsmState := rfl
@[simp] theorem tickBlock_holder (P : Config.Params) (s : State) : (tickBlock P s).holder = s.holder := rfl
@[simp] theorem tickBlock_locked (P : Config.Params) (s : State) : (tickBlock P s).locked = s.locked := rfl
@[simp] theorem tickBlock_lockHolder (P : Config.Params) (s : State) : (tickBlock P s).lockHolder = s.lockHolder := rfl
@[simp] theorem tickBlock_aspectReg (P : Config.Params) (s : State) : (tickBlock P s).aspectReg = s.aspectReg := rfl
@[simp] theorem tickBlock_target (P : Config.Params) (s : State) : (tickBlock P s).target = tickTarget P s := rfl
@[simp] theorem tickBlock_level (P : Config.Params) (s : State) : (tickBlock P s).level = tickLevel P s := rfl
@[simp] theorem tickBlock_slice (P : Config.Params) (s : State) : (tickBlock P s).slice = incMod s.slice P.pwmSlices := rfl
@[simp] theorem tickBlock_frame (P : Config.Params) (s : State) : (tickBlock P s).frame = tickFrame P s := rfl
@[simp] theorem tickBlock_flashPhase (P : Config.Params) (s : State) : (tickBlock P s).flashPhase = tickPhase P s := rfl
@[simp] theorem tickBlock_cfg (P : Config.Params) (s : State) : (tickBlock P s).cfg = s.cfg := rfl
@[simp] theorem tickBlock_err (P : Config.Params) (s : State) : (tickBlock P s).err = s.err := rfl
@[simp] theorem tickBlock_errCmd (P : Config.Params) (s : State) : (tickBlock P s).errCmd = s.errCmd := rfl
@[simp] theorem tickBlock_line (P : Config.Params) (s : State) : (tickBlock P s).line = tickLine s := rfl
@[simp] theorem tickBlock_resp (P : Config.Params) (s : State) : (tickBlock P s).resp = none := rfl
@[simp] theorem tickBlock_frames (P : Config.Params) (s : State) : (tickBlock P s).frames = tickFrames P s := rfl
@[simp] theorem tickBlock_inputs (P : Config.Params) (s : State) : (tickBlock P s).inputs = s.inputs := rfl
@[simp] theorem tickBlock_drawCount (P : Config.Params) (s : State) : (tickBlock P s).drawCount = s.drawCount := rfl

/-! ## raiseIllegal -/

@[simp] theorem raiseIllegal_ms (cmd : CmdWord) (s : State) : (raiseIllegal cmd s).ms = s.ms := rfl
@[simp] theorem raiseIllegal_tmr (cmd : CmdWord) (s : State) : (raiseIllegal cmd s).tmr = s.tmr := rfl
@[simp] theorem raiseIllegal_dbHist (cmd : CmdWord) (s : State) : (raiseIllegal cmd s).dbHist = s.dbHist := rfl
@[simp] theorem raiseIllegal_dbStable (cmd : CmdWord) (s : State) : (raiseIllegal cmd s).dbStable = s.dbStable := rfl
@[simp] theorem raiseIllegal_dbLast (cmd : CmdWord) (s : State) : (raiseIllegal cmd s).dbLast = s.dbLast := rfl
@[simp] theorem raiseIllegal_rngSeeded (cmd : CmdWord) (s : State) : (raiseIllegal cmd s).rngSeeded = s.rngSeeded := rfl
@[simp] theorem raiseIllegal_rngSeed (cmd : CmdWord) (s : State) : (raiseIllegal cmd s).rngSeed = s.rngSeed := rfl
@[simp] theorem raiseIllegal_fsmState (cmd : CmdWord) (s : State) : (raiseIllegal cmd s).fsmState = s.fsmState := rfl
@[simp] theorem raiseIllegal_holder (cmd : CmdWord) (s : State) : (raiseIllegal cmd s).holder = s.holder := rfl
@[simp] theorem raiseIllegal_locked (cmd : CmdWord) (s : State) : (raiseIllegal cmd s).locked = s.locked := rfl
@[simp] theorem raiseIllegal_lockHolder (cmd : CmdWord) (s : State) : (raiseIllegal cmd s).lockHolder = s.lockHolder := rfl
@[simp] theorem raiseIllegal_aspectReg (cmd : CmdWord) (s : State) : (raiseIllegal cmd s).aspectReg = s.aspectReg := rfl
@[simp] theorem raiseIllegal_target (cmd : CmdWord) (s : State) : (raiseIllegal cmd s).target = s.target := rfl
@[simp] theorem raiseIllegal_level (cmd : CmdWord) (s : State) : (raiseIllegal cmd s).level = s.level := rfl
@[simp] theorem raiseIllegal_slice (cmd : CmdWord) (s : State) : (raiseIllegal cmd s).slice = s.slice := rfl
@[simp] theorem raiseIllegal_frame (cmd : CmdWord) (s : State) : (raiseIllegal cmd s).frame = s.frame := rfl
@[simp] theorem raiseIllegal_flashPhase (cmd : CmdWord) (s : State) : (raiseIllegal cmd s).flashPhase = s.flashPhase := rfl
@[simp] theorem raiseIllegal_cfg (cmd : CmdWord) (s : State) : (raiseIllegal cmd s).cfg = s.cfg := rfl
@[simp] theorem raiseIllegal_err (cmd : CmdWord) (s : State) : (raiseIllegal cmd s).err = true := rfl
@[simp] theorem raiseIllegal_errCmd (cmd : CmdWord) (s : State) : (raiseIllegal cmd s).errCmd = if s.err then s.errCmd else cmd := rfl
@[simp] theorem raiseIllegal_line (cmd : CmdWord) (s : State) : (raiseIllegal cmd s).line = s.line := rfl
@[simp] theorem raiseIllegal_resp (cmd : CmdWord) (s : State) : (raiseIllegal cmd s).resp = some 0 := rfl
@[simp] theorem raiseIllegal_frames (cmd : CmdWord) (s : State) : (raiseIllegal cmd s).frames = [] := rfl
@[simp] theorem raiseIllegal_inputs (cmd : CmdWord) (s : State) : (raiseIllegal cmd s).inputs = s.inputs := rfl
@[simp] theorem raiseIllegal_drawCount (cmd : CmdWord) (s : State) : (raiseIllegal cmd s).drawCount = s.drawCount := rfl

end Sys2Proof.Machine
end

