-- ==== Sys2Proof/Laws/Ops.lean ====
section
/-! SUPPORT. One lemma for each shared operation that says once everything it can do; proofs cite these and do not unfold
the operations. -/

namespace Sys2Proof.Machine

open Sys2Proof.Config

/-! ## The adopted parameters (R10) -/

theorem params_wf : params.wf = true := by decide

@[simp] theorem params_ticksPerS : params.ticksPerS = 1000 := rfl
@[simp] theorem params_dbInterval : params.dbInterval = 10 := rfl
@[simp] theorem params_pwmSlices : params.pwmSlices = 32 := rfl
@[simp] theorem params_levelMax : params.levelMax = 31 := rfl
@[simp] theorem params_framesPerCycle : params.framesPerCycle = 32 := rfl
@[simp] theorem params_dwellStepS : params.dwellStepS = 5 := rfl
@[simp] theorem params_dwellNominalS : params.dwellNominalS = 1 := rfl
@[simp] theorem params_dwellClasses : params.dwellClasses = 8 := rfl
@[simp] theorem params_timeoutClasses : params.timeoutClasses = 4 := rfl
@[simp] theorem params_dwellTable : params.dwellTable = dwellTable := rfl
@[simp] theorem params_timeoutS : params.timeoutS = [10, 20, 30, 60] := rfl
@[simp] theorem params_lockoutTicks : params.lockoutTicks = 5000 := rfl
@[simp] theorem params_strictClearing : params.strictClearing = strictClearing := rfl
@[simp] theorem params_rng : params.rng = rng := rfl

/-! ## Operands -/

/-- A selector names the timer whose code it is, and 3 names none. -/
theorem timerOf_cases (t : Selector) : (∃ u, timerOf t = some u ∧ timerCode u = t) ∨ (t = 3 ∧ timerOf t = none) := by
  revert t; decide

@[simp] theorem timerOf_timerCode (u : Timer) : timerOf (timerCode u) = some u := by cases u <;> rfl

@[simp] theorem timerOf_eq_none (t : Selector) : timerOf t = none ↔ t = 3 := by revert t; decide

/-- A selector 1 or 2 names an approach, and 0 and 3 name none. -/
theorem approachOf_cases (d : Selector) :
    (∃ x, approachOf d = some x ∧ directionCode (some x) = d) ∨ ((d = 0 ∨ d = 3) ∧ approachOf d = none) := by
  revert d; decide

/-- An aspect code below 3 names the aspect whose code it is, and 3 names none. -/
theorem aspectOfCode_cases (a : Selector) :
    (∃ x, aspectOfCode a = some x ∧ aspectCode x = a) ∨ (a = 3 ∧ aspectOfCode a = none) := by
  revert a; decide

@[simp] theorem readTimer_writeTimer (x : Timers) (t u : Timer) (v : Word) :
    readTimer (writeTimer x t v) u = if u = t then v else readTimer x u := by
  cases t <;> cases u <;> rfl

@[simp] theorem atHead_setHead {α : Type} (x : PerHead α) (h k : Head) (v : α) :
    atHead (setHead x h v) k = if k = h then v else atHead x k := by
  cases h <;> cases k <;> rfl

@[simp] theorem atHead_forHeads {α : Type} (f : Head → α) (h : Head) : atHead (forHeads f) h = f h := by cases h <;> rfl

theorem opp_ne (d : Approach) : opp d ≠ d := by cases d <;> decide

/-- The 5-bit counters advance modulo 32 by adding one. -/
@[simp] theorem incMod_32 (x : Level) : incMod x 32 = x + 1 := by revert x; decide

/-! ## The exception and RESET -/

/-- Everything IllegalCommand writes (R330). -/
theorem raiseIllegal_eq (cmd : CmdWord) (s : State) :
    raiseIllegal cmd s =
      { s with err := true, errCmd := if s.err then s.errCmd else cmd, resp := some 0, frames := [] } := rfl

/-- Everything RESET writes (R360): all but the model's own schedule and draw counter. -/
theorem resetBlock_eq (s : State) :
    resetBlock s = { State.reset with inputs := s.inputs, drawCount := s.drawCount } := rfl

/-! ## The lock -/

/-- The two outcomes of an acquisition (R261). -/
theorem lockAcquire_cases (d : Approach) (s : State) :
    (s.locked = false ∧ occJ s = false ∧ lockAcquire d s = (true, grantLock d s))
      ∨ ((s.locked = true ∨ occJ s = true) ∧ lockAcquire d s = (false, s)) := by
  unfold lockAcquire lockAvailable
  cases hl : s.locked <;> cases hj : occJ s <;> simp

/-! ## Dwell -/

/-- Everything seeding can do (R194). -/
theorem seedIfNeeded_eq (s : State) :
    seedIfNeeded s = { s with rngSeeded := true, rngSeed := if s.rngSeeded then s.rngSeed else s.ms } := by
  unfold seedIfNeeded
  cases h : s.rngSeeded
  · simp
  · cases s; simp_all

theorem mem_secondsRange (lo hi n : Nat) : n ∈ secondsRange lo hi ↔ lo ≤ n ∧ n ≤ hi := by
  simp only [secondsRange, List.mem_range'_1]
  omega

/-- A draw from a non-empty set yields an element of it (R193). -/
theorem pick_mem (choices : List Nat) (raw : Nat) (h : choices ≠ []) : pick choices raw ∈ choices := by
  have hlt : raw % choices.length < choices.length := Nat.mod_lt _ (List.length_pos_of_ne_nil h)
  simp [pick, List.getD_eq_getElem?_getD, List.getElem?_eq_getElem hlt]

/-- The fixed mode: the clamped class times the step, and no state changes (R192, R197). -/
theorem dwellSeconds_fixed (P : Params) (k : Byte) (s : State) :
    dwellSeconds P k false s = (clampClass k P.dwellClasses * P.dwellStepS, s) := rfl

/-- The state either mode leaves: the random mode seeds once and takes one draw (R192, R194). -/
theorem dwellSeconds_state (P : Params) (k : Byte) (r : Bool) (s : State) :
    (dwellSeconds P k r s).2 = if r then
      { s with rngSeeded := true, rngSeed := if s.rngSeeded then s.rngSeed else s.ms, drawCount := s.drawCount + 1 }
    else s := by
  cases r
  · rfl
  · simp [dwellSeconds, draw, seedIfNeeded_eq]

theorem dwellChoices_ne_nil (P : Params) (row : DwellRow) (h : row.minS ≤ row.maxS) : dwellChoices P row ≠ [] := by
  cases hs : row.skew
  · simp only [dwellChoices, hs, secondsRange, ne_eq, List.range'_eq_nil_iff]
    omega
  · simp [dwellChoices, hs]

theorem clampClass_lt (k : Byte) (n : Nat) (h : 0 < n) : clampClass k n < n := by
  unfold clampClass; omega

/-- Every random result lies in the set of the clamped class's row (R192, R193). -/
theorem dwellSeconds_random_mem (P : Params) (k : Byte) (s : State) (hP : P.wf = true) :
    ∃ row ∈ P.dwellTable, P.dwellTable[clampClass k P.dwellClasses]? = some row
      ∧ (dwellSeconds P k true s).1 ∈ dwellChoices P row := by
  simp only [Params.wf, Params.sizesOk, Params.rangesOk, Bool.and_eq_true, decide_eq_true_eq, List.all_eq_true] at hP
  obtain ⟨⟨⟨⟨hsize, hrange⟩, -⟩, -⟩, -⟩ := hP
  have hlt : clampClass k P.dwellClasses < P.dwellTable.length := clampClass_lt k _ (by omega)
  have hrow : P.dwellTable[clampClass k P.dwellClasses]? = some P.dwellTable[clampClass k P.dwellClasses] :=
    List.getElem?_eq_getElem hlt
  refine ⟨_, List.getElem_mem hlt, hrow, ?_⟩
  simp only [dwellSeconds, draw, List.getD_eq_getElem?_getD, hrow, Option.getD_some, if_true]
  exact pick_mem _ _ (dwellChoices_ne_nil P _ (hrange _ (List.getElem_mem hlt)))

/-! ## Debounce (R171) -/

@[simp] theorem acceptSample_dbHist (raw : Byte) (s : State) (b : Fin 8) :
    (acceptSample raw s).dbHist[b] = shiftIn s.dbHist[b] (raw.getLsbD b) := by
  simp [acceptSample]

@[simp] theorem acceptSample_dbStable (raw : Byte) (s : State) (b : Fin 8) :
    (acceptSample raw s).dbStable.getLsbD b
      = stableAfter (shiftIn s.dbHist[b] (raw.getLsbD b)) (s.dbStable.getLsbD b) := by
  simp [acceptSample]

/-- An accepted update writes the three debounce registers and nothing else. -/
theorem acceptSample_frame (raw : Byte) (s : State) :
    acceptSample raw s = { s with
      dbLast := s.ms, dbHist := (acceptSample raw s).dbHist, dbStable := (acceptSample raw s).dbStable } := rfl

/-- An offered sample is accepted once ten ticks have passed, and else discarded. -/
theorem offerSample_cases (P : Params) (raw : Byte) (s : State) :
    (P.dbInterval ≤ (s.ms - s.dbLast).toNat ∧ offerSample P raw s = acceptSample raw s)
      ∨ ((s.ms - s.dbLast).toNat < P.dbInterval ∧ offerSample P raw s = s) := by
  by_cases h : P.dbInterval ≤ (s.ms - s.dbLast).toNat
  · exact .inl ⟨h, if_pos (decide_eq_true h)⟩
  · exact .inr ⟨by omega, if_neg (by simpa only [updateDue, decide_eq_true_eq] using h)⟩

/-! ## The timers -/

/-- A timer counts down to 0 and stays there (R143). -/
theorem countDown_toNat (v : Word) : (countDown v).toNat = v.toNat - 1 := by
  unfold countDown
  split
  · simp_all
  · rename_i h
    have : v.toNat ≠ 0 := fun h0 => h (BitVec.eq_of_toNat_eq (by simpa using h0))
    rw [BitVec.toNat_sub_of_le (by show 1 ≤ v.toNat; omega)]
    rfl

@[simp] theorem readTimer_tickTimers (tmr : Timers) (u : Timer) :
    readTimer (tickTimers tmr) u = countDown (readTimer tmr u) := by
  cases u <;> rfl

/-! ## The driver -/

/-- A tick that ends no frame leaves the driver's registers but its slice (R220). -/
theorem tick_inside (P : Params) (s : State) (h : frameEnd P s = false) :
    tickFrame P s = s.frame ∧ tickPhase P s = s.flashPhase ∧ tickTarget P s = s.target ∧ tickLevel P s = s.level := by
  simp [tickFrame, tickPhase, tickTarget, tickLevel, cycleEnd, h]

/-- A tick that ends a frame inside its cycle takes one fade step toward the targets held (R219). -/
theorem tick_frame_end (P : Params) (s : State) (h : frameEnd P s = true) (hc : cycleEnd P s = false) :
    tickFrame P s = incMod s.frame P.framesPerCycle ∧ tickPhase P s = s.flashPhase ∧ tickTarget P s = s.target
      ∧ tickLevel P s = fadeStep s.cfg.searchlight s.level s.target := by
  simp [tickFrame, tickPhase, tickTarget, tickLevel, h, hc]

/-- A tick that ends a cycle toggles the phase and recomputes the targets first; the fade step goes toward them
(R216, R219). -/
theorem tick_cycle_end (P : Params) (s : State) (hc : cycleEnd P s = true) :
    tickFrame P s = incMod s.frame P.framesPerCycle ∧ tickPhase P s = !s.flashPhase
      ∧ tickTarget P s = (forHeads fun h => targetLevels P (atHead s.aspectReg h) (!s.flashPhase))
      ∧ tickLevel P s = fadeStep s.cfg.searchlight s.level (tickTarget P s) := by
  have h : frameEnd P s = true := by simp [cycleEnd] at hc; exact hc.1
  simp [tickFrame, tickPhase, tickTarget, tickLevel, h, hc]

/-- A fade step moves a level by at most one, never past its target, and leaves it at its target (R217). -/
theorem fadeLevel_cases (sl : Bool) (old other goal : Level) :
    (goal < old ∧ fadeLevel sl old other goal = old - 1)
      ∨ (old < goal ∧ (sl = false ∨ other = 0) ∧ fadeLevel sl old other goal = old + 1)
      ∨ ((old = goal ∨ (old < goal ∧ sl = true ∧ other ≠ 0)) ∧ fadeLevel sl old other goal = old) := by
  unfold fadeLevel
  by_cases h1 : goal < old
  · simp [h1]
  · by_cases h2 : old < goal
    · cases sl <;> by_cases h3 : other = 0 <;> simp [h1, h2, h3, BitVec.ne_of_lt h2]
      exact em _
    · have : old = goal := BitVec.le_antisymm (BitVec.not_lt.mp h1) (BitVec.not_lt.mp h2)
      simp [this]

/-! ## The state machine -/

/-- Everything a pick writes (R266, R276). -/
theorem pickApproach_eq (P : Params) (d : Approach) (s : State) :
    pickApproach P d s = { s with
      holder := some d, fsmState := .delay
      tmr := writeTimer s.tmr .delay
        (ticksOf P (dwellSeconds P s.cfg.dwellClass s.cfg.randomized { s with holder := some d }).1)
      rngSeeded := (dwellSeconds P s.cfg.dwellClass s.cfg.randomized s).2.rngSeeded
      rngSeed := (dwellSeconds P s.cfg.dwellClass s.cfg.randomized s).2.rngSeed
      drawCount := (dwellSeconds P s.cfg.dwellClass s.cfg.randomized s).2.drawCount } := by
  have h := dwellSeconds_state P s.cfg.dwellClass s.cfg.randomized { s with holder := some d }
  have h2 := dwellSeconds_state P s.cfg.dwellClass s.cfg.randomized s
  simp only [pickApproach, h, h2]
  cases s.cfg.randomized <;> rfl

/-- Every transition FSM_STEP can take, with its guard and its writes (R277, R280). -/
theorem fsmTransition_cases (P : Params) (s t : State) (h : fsmTransition P s = .ok t) :
    t = s
      ∨ (s.fsmState = .idle ∧ expired s .lockout = true ∧ ∃ d, occ s d = true ∧ t = pickApproach P d s)
      ∨ (s.fsmState = .delay ∧ expired s .delay = true ∧ t = goto .request s)
      ∨ (s.fsmState = .request ∧ s.locked = false ∧ occJ s = false
          ∧ ∃ d, s.holder = some d ∧ t = goto .clearance (grantLock d s))
      ∨ ((s.fsmState = .clearance ∨ s.fsmState = .timeout) ∧ occJ s = true ∧ t = goto .occupied s)
      ∨ (s.fsmState = .clearance ∧ occJ s = false ∧ ∃ d, s.holder = some d ∧ occ s d = false
          ∧ t = goto .timeout (armTimer .timeout (timeoutTicks P s) s))
      ∨ (s.fsmState = .timeout ∧ occJ s = false ∧ ∃ d, s.holder = some d ∧ occ s d = true
          ∧ t = goto .clearance (armTimer .timeout 0 s))
      ∨ (s.fsmState = .timeout ∧ occJ s = false ∧ expired s .timeout = true
          ∧ (∃ d, s.holder = some d ∧ occ s d = false) ∧ t = enterReset s)
      ∨ (s.fsmState = .occupied ∧ occJ s = false ∧ t = goto .lockout (armTimer .lockout (lockoutArm P) s))
      ∨ (s.fsmState = .occupied ∧ occJ s = true ∧ (∃ d, s.holder = some d ∧ occ s (opp d) = true)
          ∧ t = goto .clearing s)
      ∨ (s.fsmState = .lockout ∧ expired s .lockout = true ∧ t = enterReset s)
      ∨ (s.fsmState = .clearing ∧ clearingDone P s = true ∧ (∃ d, s.holder = some d ∧ occ s (opp d) = false)
          ∧ t = enterReset s)
      ∨ (s.fsmState = .reset ∧ t = goto .idle s) := by
  have hold (f : Approach → State) (h : withHolder s f = .ok t) : ∃ d, s.holder = some d ∧ t = f d := by
    unfold withHolder at h
    cases hd : s.holder with
    | none => rw [hd] at h; cases h
    | some d => rw [hd] at h; exact ⟨d, rfl, by cases h; rfl⟩
  unfold fsmTransition at h
  cases hs : s.fsmState <;> simp only [hs] at h
  case idle =>
    cases h
    unfold fromIdle
    split
    · simp_all; exact .inr ⟨.a, by simp_all, rfl⟩
    · split
      · simp_all; exact .inr ⟨.b, by simp_all, rfl⟩
      · exact .inl rfl
  case delay => cases h; unfold fromDelay; split <;> simp_all
  case request =>
    obtain ⟨d, hd, rfl⟩ := hold _ h
    unfold fromRequest
    obtain ⟨h1, h2, h3⟩ | ⟨-, h3⟩ := lockAcquire_cases d s <;> simp_all
  case clearance =>
    split at h
    · cases h; simp_all
    · obtain ⟨d, hd, rfl⟩ := hold _ h
      unfold fromClearance
      cases ho : occ s d <;> simp_all
  case timeout =>
    split at h
    · cases h; simp_all
    · obtain ⟨d, hd, rfl⟩ := hold _ h
      unfold fromTimeout
      cases ho : occ s d <;> cases he : expired s .timeout <;> simp_all
  case occupied =>
    split at h
    · obtain ⟨d, hd, rfl⟩ := hold _ h
      unfold fromOccupied
      cases ho : occ s (opp d) <;> simp_all
    · cases h; simp_all
  case lockout => cases h; unfold fromLockout; split <;> simp_all
  case clearing =>
    obtain ⟨d, hd, rfl⟩ := hold _ h
    unfold fromClearing
    cases ho : occ s (opp d) <;> cases hc : clearingDone P s <;> simp_all
  case reset => cases h; simp_all

/-- FSM_STEP stops only where it needs the approach of a holder that is NONE (log 6). -/
theorem fsmTransition_error (P : Params) (s : State) (f : Fault) (h : fsmTransition P s = .error f) :
    f = .holderNone ∧ s.holder = none ∧ s.fsmState ≠ .idle ∧ s.fsmState ≠ .reset := by
  have hold (g : Approach → State) (h : withHolder s g = .error f) : f = .holderNone ∧ s.holder = none := by
    unfold withHolder at h
    cases hd : s.holder with
    | none => rw [hd] at h; cases h; simp
    | some d => rw [hd] at h; cases h
  unfold fsmTransition at h
  cases hs : s.fsmState <;> simp only [hs] at h <;> (try split at h) <;>
    first | cases h | exact ⟨(hold _ h).1, (hold _ h).2, by simp, by simp⟩

/-! ## Steps -/

/-- What one step can do: idle with nothing to take, RESET, the instruction its word decodes to, or IllegalCommand on
the command port (R14, R83). -/
theorem step_cases (s t : State) (h : step s = .next t) :
    (s.inputs = [] ∧ t = s)
      ∨ (∃ rest, s.inputs = .reset :: rest ∧ t = resetBlock (afterInput rest s))
      ∨ (∃ e rest i, s.inputs = e :: rest ∧ decodeInput e = some (.ok i) ∧ exec i (afterInput rest s) = .next t)
      ∨ (∃ cmd data rest why, s.inputs = .command cmd data :: rest ∧ decode .command cmd data = .error why
          ∧ t = raiseIllegal cmd (afterInput rest s)) := by
  unfold step at h
  split at h
  · rename_i hq; cases h; exact .inl ⟨hq, rfl⟩
  · rename_i e rest hq
    cases e with
    | reset => cases h; exact .inr (.inl ⟨rest, hq, rfl⟩)
    | tickPort w =>
      simp only [takeInput, takeTickWord] at h
      split at h
      · rename_i i hi; exact .inr (.inr (.inl ⟨_, _, i, hq, congrArg some hi, h⟩))
      · cases h
    | command cmd data =>
      simp only [takeInput, takeCommand] at h
      split at h
      · rename_i i hi; exact .inr (.inr (.inl ⟨_, _, i, hq, congrArg some hi, h⟩))
      · rename_i why hi; cases h; exact .inr (.inr (.inr ⟨cmd, data, rest, why, hq, hi, rfl⟩))

end Sys2Proof.Machine
end

