-- ==== Sys2Proof/Laws/PerInstr.lean ====
section
/-! SUPPORT. Facts about each instruction as syntax, one lemma for each constructor of Instr. -/

namespace Sys2Proof.Laws

/-- A well-formed instruction's word fits the match and mask of a row of the opcode map on its own port (R108). The lemma
of each constructor names the row by its place in the map. -/
def EncodesItsRow.Statement (i : Instr) : Prop :=
  i.wf = true → ∃ row ∈ opcodeTable, row.port = i.port ∧ row.fits i.word = true

theorem EncodesItsRow.nop : EncodesItsRow.Statement .nop := by unfold EncodesItsRow.Statement; decide
theorem EncodesItsRow.tmrArm (t : Selector) (value : Word) : EncodesItsRow.Statement (.tmrArm t value) := by
  intro _
  have fits : ∀ u : Selector, opcodeTable[1].fits (0x1000 ||| atS u) = true := by decide
  exact ⟨opcodeTable[1], by simp [opcodeTable], rfl, fits t⟩
theorem EncodesItsRow.tmrRead (t : Timer) : EncodesItsRow.Statement (.tmrRead t) := by
  intro _; exact ⟨opcodeTable[3], by simp [opcodeTable], rfl, by cases t <;> decide⟩
theorem EncodesItsRow.msRead : EncodesItsRow.Statement .msRead := by unfold EncodesItsRow.Statement; decide
theorem EncodesItsRow.dbUpdate (raw : Byte) : EncodesItsRow.Statement (.dbUpdate raw) := by
  intro _; exact ⟨opcodeTable[4], by simp [opcodeTable], rfl, by revert raw; decide⟩
theorem EncodesItsRow.dbRead : EncodesItsRow.Statement .dbRead := by unfold EncodesItsRow.Statement; decide
theorem EncodesItsRow.dwell (cls : Byte) (randomized : Bool) : EncodesItsRow.Statement (.dwell cls randomized) := by
  intro _; exact ⟨opcodeTable[6], by simp [opcodeTable], rfl, by revert cls; cases randomized <;> decide⟩
theorem EncodesItsRow.lockReq (d : Selector) : EncodesItsRow.Statement (.lockReq d) := by
  intro _; exact ⟨opcodeTable[7], by simp [opcodeTable], rfl, by revert d; decide⟩
theorem EncodesItsRow.lockClr : EncodesItsRow.Statement .lockClr := by unfold EncodesItsRow.Statement; decide
theorem EncodesItsRow.aspectSet (h : Head) (aspect : Selector) (flash : Bool) :
    EncodesItsRow.Statement (.aspectSet h aspect flash) := by
  intro _; exact ⟨opcodeTable[9], by simp [opcodeTable], rfl, by revert aspect; cases h <;> cases flash <;> decide⟩
theorem EncodesItsRow.fsmStep : EncodesItsRow.Statement .fsmStep := by unfold EncodesItsRow.Statement; decide
theorem EncodesItsRow.cfgWrite (data : Word) : EncodesItsRow.Statement (.cfgWrite data) := by
  intro _; exact ⟨opcodeTable[11], by simp [opcodeTable], rfl, (by decide : opcodeTable[11].fits 0xB000 = true)⟩
theorem EncodesItsRow.aspectSync : EncodesItsRow.Statement .aspectSync := by unfold EncodesItsRow.Statement; decide
theorem EncodesItsRow.statusRead (p : Page) : EncodesItsRow.Statement (.statusRead p) := by
  intro _; exact ⟨opcodeTable[13], by simp [opcodeTable], rfl, by cases p <;> decide⟩
theorem EncodesItsRow.pwmRead (h : Head) : EncodesItsRow.Statement (.pwmRead h) := by
  intro _; exact ⟨opcodeTable[14], by simp [opcodeTable], rfl, by cases h <;> decide⟩
theorem EncodesItsRow.tick : EncodesItsRow.Statement .tick := by unfold EncodesItsRow.Statement; decide

end Sys2Proof.Laws
end

