-- ==== Sys2Proof/Certificates/Slice0/Obligations.lean ====
section
/-! DEFINITION. The statements for the provers, one definition each; OBLIGATIONS.json lists them. Where an equation
`exec i s = .next { s with … }` stands, it names every field the instruction writes, so it is the instruction's frame and
its completion as well as its result; `resp` and `frames` are the outputs of the step (log 3). -/

open Sys2Proof Sys2Proof.Machine

/-! ## Encoding -/

/-- Decode and encode agree: every well-formed instruction, with every operand its encoding admits, is read back from the
input step that presents it (R108, R109, R117). -/
def Obligations.DecodeOfEncode : Prop :=
  ∀ i : Instr, i.wf = true → decodeInput (encode i) = some (.ok i)

/-- The decoder drops no bit of a command word: a word that decodes is the encoding of what it decodes to, on that
instruction's port, and that instruction is well-formed (R108, R112, R115). -/
def Obligations.DecodedWordIsItsEncoding : Prop :=
  ∀ (p : Port) (cmd : CmdWord) (data : Word) (i : Instr),
    decode p cmd data = .ok i → i.word = cmd ∧ i.port = p ∧ i.wf = true

/-- No two rows of the opcode map read the same word on the same port (R108, R115). -/
def Obligations.OpcodeRowsDoNotOverlap : Prop :=
  ∀ (p : Port) (cmd : CmdWord) (data : Word), ∀ r₁ ∈ opcodeTable, ∀ r₂ ∈ opcodeTable,
    r₁.decode p cmd data ≠ none → r₂.decode p cmd data ≠ none → r₁.mnemonic = r₂.mnemonic

/-- Sixteen words written out from the spec's encodings, one for each instruction, decode to the instructions they stand
for (R108, R117). -/
def Obligations.WrittenWordsDecode : Prop :=
  decode .command 0x0000 0 = .ok .nop
    ∧ decode .command 0x1100 10000 = .ok (.tmrArm 1 10000)
    ∧ decode .command 0x2200 0 = .ok (.tmrRead .lockout)
    ∧ decode .command 0x2300 0 = .ok .msRead
    ∧ decode .command 0x4001 0 = .ok (.dbUpdate 1)
    ∧ decode .command 0x5000 0 = .ok .dbRead
    ∧ decode .command 0x6104 0 = .ok (.dwell 4 true)
    ∧ decode .command 0x7100 0 = .ok (.lockReq 1)
    ∧ decode .command 0x8000 0 = .ok .lockClr
    ∧ decode .command 0x9106 0 = .ok (.aspectSet .b 2 true)
    ∧ decode .command 0xA000 0 = .ok .fsmStep
    ∧ decode .command 0xB000 0x00010102 = .ok (.cfgWrite 0x00010102)
    ∧ decode .command 0xC000 0 = .ok .aspectSync
    ∧ decode .command 0xD300 0 = .ok (.statusRead .dbLast)
    ∧ decode .command 0xE100 0 = .ok (.pwmRead .b)
    ∧ decode .tick 0xF000 0 = .ok .tick

/-- Opcode 0xF is TICK on the tick port only: there 0xF000 is the only word, on the command port every word of the opcode
raises IllegalCommand, and no step of the command port advances time (R111). -/
def Obligations.OnlyTheTickPortAdvancesTime : Prop :=
  (∀ (w : CmdWord) (i : Instr), decode .tick w 0 = .ok i ↔ (w = 0xF000 ∧ i = .tick))
    ∧ (∀ (s : State) (cmd : CmdWord) (data : Word) (rest : List Input), 0xF000 ≤ cmd.toNat →
        s.inputs = .command cmd data :: rest → step s = .next (raiseIllegal cmd (afterInput rest s)))
    ∧ (∀ (s t : State) (cmd : CmdWord) (data : Word) (rest : List Input),
        s.inputs = .command cmd data :: rest → step s = .next t → t.ms = s.ms ∧ t.slice = s.slice ∧ t.frame = s.frame)

/-- Every word of the reserved opcode raises IllegalCommand; so do the field values that are illegal although the pattern
fits; the neighbour 0x2300 is MS_READ; an out-of-range class is never illegal, in DWELL or in a configuration word, and a
DWELL class above 7 acts as class 7 (R110, R113). -/
def Obligations.IllegalWordsRaise : Prop :=
  (∀ (s : State) (cmd : CmdWord) (data : Word) (rest : List Input),
      (0x3000 ≤ cmd.toNat ∧ cmd.toNat ≤ 0x3FFF)
        ∨ cmd ∈ [(0x1300 : CmdWord), 0x7000, 0x7300, 0x9003, 0x9007, 0x9103, 0x9107] →
      s.inputs = .command cmd data :: rest → step s = .next (raiseIllegal cmd (afterInput rest s)))
    ∧ (∀ data : Word, decode .command 0x2300 data = .ok .msRead)
    ∧ (∀ data : Word, decode .command 0xB000 data = .ok (.cfgWrite data))
    ∧ (∀ (k : Byte) (r : Bool) (data : Word), decode .command (Instr.dwell k r).word data = .ok (.dwell k r))
    ∧ (∀ (s : State) (k : Byte) (r : Bool), 7 ≤ k.toNat → exec (.dwell k r) s = exec (.dwell 7 r) s)

/-! ## Steps, RESET and the exception -/

/-- A step runs the decoded instruction: the word at the head of the schedule is taken from it, and nothing else is added
around `exec` (R14, R83, R115; the schedule is the model's, log 1). -/
def Obligations.StepRunsDecoded : Prop :=
  ∀ (s : State) (e : Input) (rest : List Input) (i : Instr),
    s.inputs = e :: rest → decodeInput e = some (.ok i) → step s = exec i { s with inputs := rest }

/-- Two of the model's own choices: with no input step to take every register keeps its value (log 1, in the sense of
R345), and a tick-port word other than 0xF000 is refused (log 7, a choice R115 leaves). -/
def Obligations.StepOutsideTheSpecsInputs : Prop :=
  (∀ s : State, s.inputs = [] → step s = .next s)
    ∧ ∀ (s : State) (w : CmdWord) (rest : List Input), w ≠ 0xF000 → s.inputs = .tickPort w :: rest →
      step s = .refused .tickPortWord

/-- An illegal command word, and an illegal field value in a command's own rule, write `err`, `err_cmd` (the first such
word only) and the response, and nothing else (R330). -/
def Obligations.IllegalCommandIsPrecise : Prop :=
  (∀ (s : State) (cmd : CmdWord) (data : Word) (rest : List Input) (why : Illegal),
      s.inputs = .command cmd data :: rest → decode .command cmd data = .error why →
        step s = .next { s with
          inputs := rest, err := true, errCmd := if s.err then s.errCmd else cmd, resp := some 0, frames := [] })
    ∧ (∀ (s : State) (i : Instr), i.wf = false →
        exec i s = .next { s with
          err := true, errCmd := if s.err then s.errCmd else i.word, resp := some 0, frames := [] })

/-- `err` is sticky, and `err_cmd` holds the first illegal word since RESET: the first illegal word is recorded, and once
`err` is set only RESET changes either (R332). -/
def Obligations.ErrorIsSticky : Prop :=
  (∀ s t : State, s.err = true → s.inputs.head? ≠ some .reset → step s = .next t →
      t.err = true ∧ t.errCmd = s.errCmd)
    ∧ (∀ (s : State) (cmd : CmdWord) (data : Word) (rest : List Input) (why : Illegal), s.err = false →
        s.inputs = .command cmd data :: rest → decode .command cmd data = .error why →
          ∃ t, step s = .next t ∧ t.err = true ∧ t.errCmd = cmd)
    ∧ ∀ s t : State, step s = .next t → s.err = false → t.err = true →
        ∃ data rest why, s.inputs = .command t.errCmd data :: rest ∧ decode .command t.errCmd data = .error why

/-- RESET is one step that gives every register its reset value and produces no response and no Frame event (R360). The
rest of the schedule stays, and the draw counter is left open: both are the model's own (log 1, log 4). -/
def Obligations.ResetWritesEveryRegister : Prop :=
  ∀ (s : State) (rest : List Input), s.inputs = .reset :: rest →
    ∃ n : Nat, step s = .next
      { ms := 0, tmr := ⟨0, 0, 0⟩, dbHist := Vector.replicate 8 0x00, dbStable := 0x00, dbLast := 0
        rngSeeded := false, rngSeed := 0, fsmState := .idle, holder := none, locked := false, lockHolder := none
        aspectReg := ⟨⟨false, .red⟩, ⟨false, .red⟩⟩, target := ⟨⟨31, 0⟩, ⟨31, 0⟩⟩, level := ⟨⟨31, 0⟩, ⟨31, 0⟩⟩
        line := ⟨⟨false, false⟩, ⟨false, false⟩⟩, slice := 0, frame := 0, flashPhase := false
        cfg := ⟨0, 0, false, false, false⟩, err := false, errCmd := 0x0000, resp := none, frames := []
        inputs := rest, drawCount := n }

/-- The hardware's order of arrivals, for every RESET, tick, command and late tick: a RESET alone, the tick and the command
that came with it discarded; else the TICK, the command, and the tick that came during it, each where there is one. A step
does not enforce it (R336, R92, R363; log 10, where a late tick without a command is the model's form of one more tick). -/
def Obligations.ArrivalOrder : Prop :=
  ∀ (tick late : Bool) (command : Option (CmdWord × Word)) (cmd : CmdWord) (data : Word),
    arrivalSteps ⟨true, tick, command, late⟩ = [.reset]
      ∧ arrivalSteps ⟨false, true, some (cmd, data), true⟩ = [.tickPort 0xF000, .command cmd data, .tickPort 0xF000]
      ∧ arrivalSteps ⟨false, true, some (cmd, data), false⟩ = [.tickPort 0xF000, .command cmd data]
      ∧ arrivalSteps ⟨false, false, some (cmd, data), true⟩ = [.command cmd data, .tickPort 0xF000]
      ∧ arrivalSteps ⟨false, false, some (cmd, data), false⟩ = [.command cmd data]
      ∧ arrivalSteps ⟨false, tick, none, late⟩ = List.replicate (tick.toNat + late.toNat) (.tickPort 0xF000)

/-- No command waits and none can fail: in a state whose holder matches its state (every state of a run, R283), the next
step completes, unless a word that the tick source cannot produce stands on the tick port (R277, R331, R373). -/
def Obligations.EveryStepCompletes : Prop :=
  ∀ s : State, HolderMatches s → (∀ w : CmdWord, s.inputs.head? = some (.tickPort w) → w = 0xF000) →
    ∃ t, step s = .next t

/-! ## Timebase and timers -/

/-- `ms` counts ticks modulo 2^32; each nonzero timer counts down by one, and a timer at zero stays there; besides these a
TICK writes the driver's registers and outputs, and no other register (R141, R142, R143). -/
def Obligations.TickCountsTimeAndTimers : Prop :=
  ∀ s : State, ∃ t, exec .tick s = .next t
    ∧ t.ms.toNat = (s.ms.toNat + 1) % 2 ^ 32
    ∧ (∀ u : Timer, readTimer t.tmr u = if readTimer s.tmr u = 0 then 0 else readTimer s.tmr u - 1)
    ∧ t = { s with
        ms := t.ms, tmr := t.tmr, line := t.line, slice := t.slice, frame := t.frame, flashPhase := t.flashPhase
        target := t.target, level := t.level, resp := none, frames := t.frames }

/-- TMR_ARM writes the selected timer only (R144, R151). -/
def Obligations.TmrArmWritesOneTimer : Prop :=
  ∀ (s : State) (u : Timer) (v : Word), ∃ tmr : Timers,
    exec (.tmrArm (timerCode u) v) s = .next { s with tmr := tmr, resp := some 0, frames := [] }
      ∧ readTimer tmr u = v ∧ ∀ w : Timer, w ≠ u → readTimer tmr w = readTimer s.tmr w

/-- The reads of a timer, of `ms` and of the debounced lanes return the register, zero-extended, and change none
(R145, R146, R173, R85). -/
def Obligations.ReadsReturnTheirRegisters : Prop :=
  ∀ s : State,
    exec (.tmrRead .delay) s = .next { s with resp := some s.tmr.delay, frames := [] }
      ∧ exec (.tmrRead .timeout) s = .next { s with resp := some s.tmr.timeout, frames := [] }
      ∧ exec (.tmrRead .lockout) s = .next { s with resp := some s.tmr.lockout, frames := [] }
      ∧ exec .msRead s = .next { s with resp := some s.ms, frames := [] }
      ∧ ∃ w : Word, exec .dbRead s = .next { s with resp := some w, frames := [] } ∧ w.toNat = s.dbStable.toNat

/-- Arm-to-expiry count: along any run of steps in which nothing but TICK changes a timer, a timer that held `N` reads
`max(N - k, 0)` after `k` TICK steps among them, so it has expired from the `N`-th on, which is what the next FSM_STEP tests
(R148). -/
def Obligations.TimerAfterTicks : Prop :=
  ∀ (st : Nat → State) (n : Nat) (u : Timer),
    (∀ k < n, step (st k) = .next (st (k + 1))
      ∧ (ticksNext (st k) = false → readTimer (st (k + 1)).tmr u = readTimer (st k).tmr u)) →
    (readTimer (st n).tmr u).toNat = (readTimer (st 0).tmr u).toNat - ticksIn st n
      ∧ expired (st n) u = decide ((readTimer (st 0).tmr u).toNat ≤ ticksIn st n)

/-- The phase of the driver and `ms` after `k` TICK steps: the three PWM counters count the ticks modulo 2048 (R220). -/
def Obligations.PhaseAfterTicks : Prop :=
  ∀ (k : Nat) (s : State) (q : List Input), s.inputs = tickInputs k ++ q →
    ∃ t : State, Host.Core.run Sys2Proof.core k s = .next t
      ∧ t.ms.toNat = (s.ms.toNat + k) % 2 ^ 32
      ∧ t.slice.toNat + 32 * t.frame.toNat + 1024 * t.flashPhase.toNat
          = (s.slice.toNat + 32 * s.frame.toNat + 1024 * s.flashPhase.toNat + k) % 2048

/-! ## Debounce -/

/-- DB_UPDATE, both ways its throttle can fall, at every elapsed time: a sample less than 10 ticks after the last accepted
one is discarded; else every lane shifts it in and decides its stable bit (R171). -/
def Obligations.DbUpdateThrottlesAndShifts : Prop :=
  ∀ (s : State) (raw : Byte),
    ((s.ms - s.dbLast).toNat < 10 → exec (.dbUpdate raw) s = .next { s with resp := some 0, frames := [] })
    ∧ (10 ≤ (s.ms - s.dbLast).toNat → ∃ (hist : Vector Byte 8) (stable : Byte),
        exec (.dbUpdate raw) s = .next { s with
          dbLast := s.ms, dbHist := hist, dbStable := stable, resp := some 0, frames := [] }
        ∧ ∀ b : Fin 8, hist[b] = (s.dbHist[b] <<< 1) ||| (if raw.getLsbD b then 1 else 0)
          ∧ stable.getLsbD b
              = if hist[b] = 0xFF then true else if hist[b] = 0x00 then false else s.dbStable.getLsbD b)

/-- Lane independence: two updates that agree on the throttle, on a lane and on its raw bit agree on that lane after, and
the lanes of one update are all shifted or all left (R172). -/
def Obligations.LaneIndependence : Prop :=
  (∀ (s₁ s₂ t₁ t₂ : State) (raw₁ raw₂ : Byte) (b : Fin 8),
      s₁.ms = s₂.ms → s₁.dbLast = s₂.dbLast → s₁.dbHist[b] = s₂.dbHist[b] →
      s₁.dbStable.getLsbD b = s₂.dbStable.getLsbD b → raw₁.getLsbD b = raw₂.getLsbD b →
      exec (.dbUpdate raw₁) s₁ = .next t₁ → exec (.dbUpdate raw₂) s₂ = .next t₂ →
        t₁.dbHist[b] = t₂.dbHist[b] ∧ t₁.dbStable.getLsbD b = t₂.dbStable.getLsbD b)
    ∧ (∀ (s t : State) (raw : Byte), exec (.dbUpdate raw) s = .next t →
        (∀ b : Fin 8, t.dbHist[b] = (s.dbHist[b] <<< 1) ||| (if raw.getLsbD b then 1 else 0))
          ∨ (t.dbHist = s.dbHist ∧ t.dbStable = s.dbStable))

/-- A run of eight or more accepted updates whose raw bit is constant leaves the lane's stable bit at that value, whatever
happens between the updates that keeps the lane's registers (R174). -/
def Obligations.StableInputReachesOutput : Prop :=
  ∀ (n : Nat) (st before : Nat → State) (raw : Nat → Byte) (b : Fin 8) (v : Bool), 8 ≤ n →
    (∀ k < n, (before k).dbHist = (st k).dbHist ∧ (before k).dbStable = (st k).dbStable
      ∧ 10 ≤ ((before k).ms - (before k).dbLast).toNat ∧ (raw k).getLsbD b = v
      ∧ exec (.dbUpdate (raw k)) (before k) = .next (st (k + 1))) →
    (st n).dbStable.getLsbD b = v

/-- Rejection of oscillation: in any step but RESET a stable bit changes only when the lane's eight most recent accepted
samples all have the new value, and the throttle let the sample in (R175, R176). -/
def Obligations.StableChangesOnlyOnEightEqual : Prop :=
  ∀ (s t : State) (b : Fin 8), s.inputs.head? ≠ some .reset → step s = .next t →
    t.dbStable.getLsbD b ≠ s.dbStable.getLsbD b →
      10 ≤ (s.ms - s.dbLast).toNat ∧ t.dbLast = s.ms
        ∧ t.dbHist[b] = (if t.dbStable.getLsbD b then 0xFF else 0x00)

/-! ## Dwell -/

/-- The fixed mode returns `min(k, 7) × 5` on every call and changes no register (R197). -/
def Obligations.DwellFixedIsDeterministic : Prop :=
  ∀ (s : State) (k : Byte), ∃ w : Word,
    exec (.dwell k false) s = .next { s with resp := some w, frames := [] } ∧ w.toNat = min k.toNat 7 * 5

/-- The random mode returns an element of the set of the clamped class, whatever the random source gives, seeds the source
if it was not seeded, and changes no other register; the draw counter, the model's own, is left open (R198; log 4). -/
def Obligations.DwellRandomInRange : Prop :=
  ∀ (s : State) (k : Byte), ∃ (w : Word) (n : Nat),
    exec (.dwell k true) s = .next { s with
        rngSeeded := true, rngSeed := if s.rngSeeded then s.rngSeed else s.ms, drawCount := n
        resp := some w, frames := [] }
    ∧ (k = 0 → w = 0) ∧ (k = 1 → 1 ≤ w.toNat ∧ w.toNat ≤ 5) ∧ (k = 2 → 5 ≤ w.toNat ∧ w.toNat ≤ 10)
    ∧ (k = 3 → 10 ≤ w.toNat ∧ w.toNat ≤ 20)
    ∧ (4 ≤ k.toNat ∧ k.toNat ≤ 6 → w.toNat = 1 ∨ (15 ≤ w.toNat ∧ w.toNat ≤ 30))
    ∧ (7 ≤ k.toNat → 30 ≤ w.toNat ∧ w.toNat ≤ 60)

/-- The random source is seeded once: the first randomized computation, of DWELL or of a pick in IDLE, captures `ms`, a
deterministic one does not seed, and no step but RESET changes the seed or clears the flag after that (R194). -/
def Obligations.SeededOnce : Prop :=
  (∀ s t : State, s.rngSeeded = true → s.inputs.head? ≠ some .reset → step s = .next t →
      t.rngSeeded = true ∧ t.rngSeed = s.rngSeed)
    ∧ (∀ (s : State) (k : Byte), s.rngSeeded = false →
        ∃ t, exec (.dwell k true) s = .next t ∧ t.rngSeeded = true ∧ t.rngSeed = s.ms)
    ∧ (∀ (s : State) (k : Byte),
        ∃ t, exec (.dwell k false) s = .next t ∧ t.rngSeeded = s.rngSeeded ∧ t.rngSeed = s.rngSeed)
    ∧ (∀ s : State, s.fsmState = .idle → s.cfg.randomized = true → s.rngSeeded = false → s.tmr.lockout = 0 →
        s.dbStable.getLsbD 0 = true ∨ s.dbStable.getLsbD 1 = true →
        ∃ t, exec .fsmStep s = .next t ∧ t.rngSeeded = true ∧ t.rngSeed = s.ms)
    ∧ (∀ s t : State, s.cfg.randomized = false → exec .fsmStep s = .next t →
        t.rngSeeded = s.rngSeeded ∧ t.rngSeed = s.rngSeed)

/-! ## Aspect driver -/

/-- Every TICK drives each line to `(slice < level) XOR invert`, from the values at its start, and no word on the command port
writes a line (R226). -/
def Obligations.OnlyTickDrivesLines : Prop :=
  (∀ (s : State) (h : Head), ∃ t, exec .tick s = .next t
      ∧ (atHead t.line h).r = Bool.xor (decide (s.slice.toNat < (atHead s.level h).r.toNat)) s.cfg.invert
      ∧ (atHead t.line h).g = Bool.xor (decide (s.slice.toNat < (atHead s.level h).g.toNat)) s.cfg.invert)
    ∧ ∀ (s t : State) (cmd : CmdWord) (data : Word) (rest : List Input),
        s.inputs = .command cmd data :: rest → step s = .next t → t.line = s.line

/-- At the first slice of a frame a TICK emits one Frame event for each head, head A first, with the duty of each channel;
at any other slice none (R220, R227). -/
def Obligations.FrameEventsAtFirstSlice : Prop :=
  ∀ s : State, ∃ t, exec .tick s = .next t
    ∧ (s.slice ≠ 0 → t.frames = [])
    ∧ (s.slice = 0 → s.cfg.invert = false →
        t.frames = [⟨.a, s.level.a.r.toNat, s.level.a.g.toNat⟩, ⟨.b, s.level.b.r.toNat, s.level.b.g.toNat⟩])
    ∧ (s.slice = 0 → s.cfg.invert = true →
        t.frames = [⟨.a, 32 - s.level.a.r.toNat, 32 - s.level.a.g.toNat⟩,
          ⟨.b, 32 - s.level.b.r.toNat, 32 - s.level.b.g.toNat⟩])

/-- The PWM sequencer: inside a frame only `slice` moves; at a frame boundary each level takes one fade step toward the
target and `frame` advances; at a cycle boundary the phase toggles and the targets are recomputed before that step (R216,
R219, R220). -/
def Obligations.TickSequencesFramesAndCycles : Prop :=
  ∀ s : State, ∃ t, exec .tick s = .next t ∧ t.slice = s.slice + 1
    ∧ (s.slice ≠ 31 → t.frame = s.frame ∧ t.flashPhase = s.flashPhase ∧ t.target = s.target ∧ t.level = s.level)
    ∧ (s.slice = 31 → t.frame = s.frame + 1 ∧ t.level = fadeStep s.cfg.searchlight s.level t.target)
    ∧ (s.slice = 31 → s.frame ≠ 31 → t.flashPhase = s.flashPhase ∧ t.target = s.target)
    ∧ (s.slice = 31 → s.frame = 31 → t.flashPhase = !s.flashPhase
        ∧ ∀ h : Head, atHead t.target h
          = if (atHead s.aspectReg h).flash = true ∧ t.flashPhase = true then ⟨0, 0⟩
            else match (atHead s.aspectReg h).aspect with
              | .off => ⟨0, 0⟩
              | .red => ⟨31, 0⟩
              | .green => ⟨0, 31⟩)

/-- One fade step: a channel above its target falls by one, whatever the style; a channel below it rises by one, in the
searchlight style only while the head's other channel was at 0; a channel at its target stays (R217, R218). -/
def Obligations.FadeStepRule : Prop :=
  ∀ (searchlight : Bool) (old goal : PerHead (PerChannel Level)) (h : Head),
    (let o := atHead old h
     let g := atHead goal h
     let n := atHead (fadeStep searchlight old goal) h
     n.r.toNat = (if g.r.toNat < o.r.toNat then o.r.toNat - 1
        else if o.r.toNat < g.r.toNat ∧ (searchlight = false ∨ o.g = 0) then o.r.toNat + 1 else o.r.toNat)
      ∧ n.g.toNat = (if g.g.toNat < o.g.toNat then o.g.toNat - 1
        else if o.g.toNat < g.g.toNat ∧ (searchlight = false ∨ o.r = 0) then o.g.toNat + 1 else o.g.toNat))

/-- Standard style: from any levels every channel reaches any target within 31 frame boundaries and stays there, and the
full change between RED and GREEN takes all 31 (R224). -/
def Obligations.StandardFadeLength : Prop :=
  (∀ (old goal : PerHead (PerChannel Level)) (n : Nat), 31 ≤ n → (fun x => fadeStep false x goal)^[n] old = goal)
    ∧ (∀ n < 31, (fun x => fadeHead false x ⟨0, 31⟩)^[n] ⟨31, 0⟩ ≠ ⟨0, 31⟩)
    ∧ ∀ n < 31, (fun x => fadeHead false x ⟨31, 0⟩)^[n] ⟨0, 31⟩ ≠ ⟨31, 0⟩

/-- Searchlight style: RED to GREEN takes 62 frame boundaries, with exactly one dark frame, the one after the 31st
(R225). -/
def Obligations.SearchlightFadeLength : Prop :=
  let after := fun n : Nat => (fun x => fadeHead true x ⟨0, 31⟩)^[n] (⟨31, 0⟩ : PerChannel Level)
  (∀ n ≤ 31, after n = ⟨BitVec.ofNat 5 (31 - n), 0⟩) ∧ (∀ n ≤ 31, after (31 + n) = ⟨0, BitVec.ofNat 5 n⟩)
    ∧ ∀ n ≤ 62, after n = ⟨0, 0⟩ ↔ n = 31

/-- Polarity is transparent: with `invert` set a TICK gives every line its opposite and every Frame duty its complement in
32, and the same levels, targets and counters (R222). -/
def Obligations.PolarityOnlyAtOutputs : Prop :=
  ∀ s t u : State, s.cfg.invert = false → exec .tick s = .next t →
    exec .tick { s with cfg := { s.cfg with invert := true } } = .next u →
      (∀ h : Head, (atHead u.line h).r = !(atHead t.line h).r ∧ (atHead u.line h).g = !(atHead t.line h).g)
        ∧ u.frames = t.frames.map (fun e => ⟨e.head, 32 - e.dutyR, 32 - e.dutyG⟩)
        ∧ u.level = t.level ∧ u.target = t.target
        ∧ u.slice = t.slice ∧ u.frame = t.frame ∧ u.flashPhase = t.flashPhase

/-- Proportional duty: along any run of steps without RESET that starts a frame and keeps `invert`, the levels stay through
the frame's 32 ticks, and the tick of slice `k` drives a channel at level L active exactly when `k < L`: in slices 0 to L-1
and in no other (R223). -/
def Obligations.FrameDutyIsProportional : Prop :=
  ∀ (st : Nat → State) (n : Nat) (h : Head), (st 0).slice = 0 → ticksIn st n < 32 → ticksNext (st n) = true →
    (∀ k ≤ n, step (st k) = .next (st (k + 1)) ∧ (st k).inputs.head? ≠ some .reset
      ∧ (st k).cfg.invert = (st 0).cfg.invert) →
    (st n).level = (st 0).level
      ∧ (atHead (st (n + 1)).line h).r
        = Bool.xor (decide (ticksIn st n < (atHead (st 0).level h).r.toNat)) (st 0).cfg.invert
      ∧ (atHead (st (n + 1)).line h).g
        = Bool.xor (decide (ticksIn st n < (atHead (st 0).level h).g.toNat)) (st 0).cfg.invert

/-- A head's commanded aspect reaches its target at the next cycle boundary, at most 1024 ticks later, and the target does
not change before (R216, R229). -/
def Obligations.AspectReachesTargetInOneCycle : Prop :=
  ∀ (s : State) (q : List Input) (n : Nat),
    n = 1024 - (s.slice.toNat + 32 * s.frame.toNat) → s.inputs = tickInputs n ++ q →
      1 ≤ n ∧ n ≤ 1024
        ∧ (∀ k < n, ∃ t : State, Host.Core.run Sys2Proof.core k s = .next t ∧ t.target = s.target)
        ∧ ∃ t : State, Host.Core.run Sys2Proof.core n s = .next t ∧ t.slice = 0 ∧ t.frame = 0
          ∧ ∀ h : Head, atHead t.target h = targetLevels Config.params (atHead s.aspectReg h) (!s.flashPhase)

/-- Only TICK writes the driver's live state, and only ASPECT_SET, ASPECT_SYNC and CFG_WRITE write what the host gives the
driver (R228). -/
def Obligations.DriverOwnership : Prop :=
  ∀ (i : Instr) (s t : State), exec i s = .next t →
    (i ≠ .tick → t.level = s.level ∧ t.target = s.target ∧ t.slice = s.slice ∧ t.frame = s.frame
        ∧ t.flashPhase = s.flashPhase)
      ∧ ((∀ h a f, i ≠ .aspectSet h a f) → i ≠ .aspectSync → t.aspectReg = s.aspectReg)
      ∧ ((∀ d, i ≠ .cfgWrite d) → t.cfg = s.cfg)

/-- ASPECT_SET writes one head's commanded aspect and flash bit and nothing else (R211). -/
def Obligations.AspectSetWritesOneHead : Prop :=
  ∀ (s : State) (h : Head) (a : Aspect) (f : Bool), ∃ x : PerHead AspectReg,
    exec (.aspectSet h (aspectCode a) f) s = .next { s with aspectReg := x, resp := some 0, frames := [] }
      ∧ atHead x h = ⟨f, a⟩ ∧ ∀ k : Head, k ≠ h → atHead x k = atHead s.aspectReg k

/-- ASPECT_SYNC writes both heads in one step, steady: GREEN for the head of the holder in CLEARANCE or TIMEOUT, RED for
every other (R212, R278). -/
def Obligations.AspectSyncProjects : Prop :=
  ∀ s : State, ∃ x : PerHead AspectReg,
    exec .aspectSync s = .next { s with aspectReg := x, resp := some 0, frames := [] }
      ∧ x.a = ⟨false, if (s.fsmState = .clearance ∨ s.fsmState = .timeout) ∧ s.holder = some .a then .green else .red⟩
      ∧ x.b = ⟨false, if (s.fsmState = .clearance ∨ s.fsmState = .timeout) ∧ s.holder = some .b then .green else .red⟩

/-- PWM_READ returns one head's levels and targets and the shared phase, each field at its place, and changes no register
(R213). -/
def Obligations.PwmReadFields : Prop :=
  ∀ (s : State) (h : Head), ∃ w : Word, exec (.pwmRead h) s = .next { s with resp := some w, frames := [] }
    ∧ w.extractLsb' 0 5 = (atHead s.level h).r ∧ w.extractLsb' 5 5 = (atHead s.level h).g
    ∧ w.extractLsb' 10 5 = (atHead s.target h).r ∧ w.extractLsb' 15 5 = (atHead s.target h).g
    ∧ w.extractLsb' 20 5 = s.slice ∧ w.extractLsb' 25 5 = s.frame
    ∧ w.getLsbD 30 = s.flashPhase ∧ w.getLsbD 31 = false

/-! ## Junction lock -/

/-- The lock commands: LOCK_REQ is granted exactly when the lock is unheld and the junction reads clear, its response says
which, and a refused request changes no register; LOCK_CLR releases unconditionally (R261, R262, R263, R264). -/
def Obligations.LockCommands : Prop :=
  ∀ (s : State) (d : Approach),
    (s.locked = false ∧ s.dbStable.getLsbD 2 = false → exec (.lockReq (directionCode (some d))) s
        = .next { s with locked := true, lockHolder := some d, resp := some 1, frames := [] })
      ∧ (s.locked = true ∨ s.dbStable.getLsbD 2 = true → exec (.lockReq (directionCode (some d))) s
        = .next { s with resp := some 0, frames := [] })
      ∧ exec .lockClr s = .next { s with locked := false, lockHolder := none, resp := some 0, frames := [] }

/-- The lock is granted only while the junction reads clear, and a held lock passes to no other direction: in every step
but RESET a held lock keeps its direction or is released (R281). -/
def Obligations.MutualExclusion : Prop :=
  ∀ s t : State, LockRecord s → step s = .next t →
    LockRecord t
      ∧ (s.locked = false → t.locked = true → s.dbStable.getLsbD 2 = false)
      ∧ (s.locked = true → t.locked = true → t.lockHolder = s.lockHolder)

/-! ## The state machine -/

/-- IDLE with the fixed dwell: A is picked before B, only while the lockout timer is 0, and the delay is armed with the
clamped class times 5 seconds; else nothing but the response is written (R266, R276). -/
def Obligations.FsmIdleFixed : Prop :=
  ∀ s : State, s.fsmState = .idle → s.cfg.randomized = false →
    exec .fsmStep s = .next
      (if s.tmr.lockout = 0 ∧ (s.dbStable.getLsbD 0 = true ∨ s.dbStable.getLsbD 1 = true) then
        { s with
          holder := some (if s.dbStable.getLsbD 0 then .a else .b)
          tmr := { s.tmr with delay := BitVec.ofNat 32 (min s.cfg.dwellClass.toNat 7 * 5 * 1000) }
          fsmState := .delay, resp := some 0, frames := [] }
      else { s with resp := some 0, frames := [] })

/-- IDLE with the random dwell: the same picks, the source seeded once, and the delay armed with 1000 times a whole number
of seconds of the clamped class's set, whatever the draw (R266, R276, R192, R194; log 4). -/
def Obligations.FsmIdleRandom : Prop :=
  ∀ s : State, s.fsmState = .idle → s.cfg.randomized = true →
    (¬(s.tmr.lockout = 0 ∧ (s.dbStable.getLsbD 0 = true ∨ s.dbStable.getLsbD 1 = true)) →
        exec .fsmStep s = .next { s with resp := some 0, frames := [] })
      ∧ (s.tmr.lockout = 0 ∧ (s.dbStable.getLsbD 0 = true ∨ s.dbStable.getLsbD 1 = true) → ∃ secs n : Nat,
        exec .fsmStep s = .next { s with
          holder := some (if s.dbStable.getLsbD 0 then .a else .b)
          tmr := { s.tmr with delay := BitVec.ofNat 32 (secs * 1000) }
          rngSeeded := true, rngSeed := if s.rngSeeded then s.rngSeed else s.ms, drawCount := n
          fsmState := .delay, resp := some 0, frames := [] }
        ∧ (s.cfg.dwellClass = 0 → secs = 0) ∧ (s.cfg.dwellClass = 1 → 1 ≤ secs ∧ secs ≤ 5)
        ∧ (s.cfg.dwellClass = 2 → 5 ≤ secs ∧ secs ≤ 10) ∧ (s.cfg.dwellClass = 3 → 10 ≤ secs ∧ secs ≤ 20)
        ∧ (4 ≤ s.cfg.dwellClass.toNat ∧ s.cfg.dwellClass.toNat ≤ 6 → secs = 1 ∨ (15 ≤ secs ∧ secs ≤ 30))
        ∧ (7 ≤ s.cfg.dwellClass.toNat → 30 ≤ secs ∧ secs ≤ 60))

/-- REQUEST: the lock is taken for the holder and CLEARANCE entered when the lock is free and the junction reads clear;
else stay and write nothing (R268). -/
def Obligations.FsmRequest : Prop :=
  ∀ (s : State) (d : Approach), s.fsmState = .request → s.holder = some d →
    exec .fsmStep s = .next
      (if s.locked = false ∧ s.dbStable.getLsbD 2 = false then
        { s with locked := true, lockHolder := some d, fsmState := .clearance, resp := some 0, frames := [] }
      else { s with resp := some 0, frames := [] })

/-- CLEARANCE: the junction first, then the holder's approach, which arms the timeout of the clamped class; else stay
(R269, R276). -/
def Obligations.FsmClearance : Prop :=
  ∀ (s : State) (d : Approach), s.fsmState = .clearance → s.holder = some d →
    exec .fsmStep s = .next
      (if s.dbStable.getLsbD 2 then { s with fsmState := .occupied, resp := some 0, frames := [] }
      else if occ s d = false then
        { s with
          tmr := { s.tmr with timeout :=
            if s.cfg.timeoutClass = 0 then 10000 else if s.cfg.timeoutClass = 1 then 20000
            else if s.cfg.timeoutClass = 2 then 30000 else 60000 }
          fsmState := .timeout, resp := some 0, frames := [] }
      else { s with resp := some 0, frames := [] })

/-- TIMEOUT: the junction first, leaving the timer as it is; then the holder's approach, discarding the timer; then the
timer's expiry, into RESET with the lock released and the holder cleared; else stay (R270, R275). -/
def Obligations.FsmTimeout : Prop :=
  ∀ (s : State) (d : Approach), s.fsmState = .timeout → s.holder = some d →
    exec .fsmStep s = .next
      (if s.dbStable.getLsbD 2 then { s with fsmState := .occupied, resp := some 0, frames := [] }
      else if occ s d then
        { s with tmr := { s.tmr with timeout := 0 }, fsmState := .clearance, resp := some 0, frames := [] }
      else if s.tmr.timeout = 0 then
        { s with
          locked := false, lockHolder := none, holder := none, fsmState := .reset, resp := some 0, frames := [] }
      else { s with resp := some 0, frames := [] })

/-- OCCUPIED: a clear junction first, arming the lockout; then the opposite approach, into CLEARING; else stay (R271). -/
def Obligations.FsmOccupied : Prop :=
  ∀ (s : State) (d : Approach), s.fsmState = .occupied → s.holder = some d →
    exec .fsmStep s = .next
      (if s.dbStable.getLsbD 2 = false then
        { s with tmr := { s.tmr with lockout := 5000 }, fsmState := .lockout, resp := some 0, frames := [] }
      else if occ s (opp d) then { s with fsmState := .clearing, resp := some 0, frames := [] }
      else { s with resp := some 0, frames := [] })

/-- The states that watch a timer or nothing: DELAY goes to REQUEST when the delay timer is 0, whatever the occupancy;
LOCKOUT goes to RESET when the lockout timer is 0, with the lock released and the holder cleared; RESET goes to IDLE
unconditionally (R267, R272, R274). -/
def Obligations.FsmDelayLockoutReset : Prop :=
  ∀ s : State,
    (s.fsmState = .delay → exec .fsmStep s = .next
      { s with fsmState := if s.tmr.delay = 0 then .request else .delay, resp := some 0, frames := [] })
    ∧ (s.fsmState = .lockout → exec .fsmStep s = .next
      (if s.tmr.lockout = 0 then
        { s with
          locked := false, lockHolder := none, holder := none, fsmState := .reset, resp := some 0, frames := [] }
      else { s with resp := some 0, frames := [] }))
    ∧ (s.fsmState = .reset → exec .fsmStep s = .next { s with fsmState := .idle, resp := some 0, frames := [] })

/-- CLEARING, for each value of the OPEN parameter: to RESET when the opposite approach is clear and, in the strict
variant, the junction too; no lockout is armed; else stay (R273; log 5). -/
def Obligations.FsmClearing : Prop :=
  ∀ (s : State) (d : Approach), s.fsmState = .clearing → s.holder = some d →
    exec .fsmStep s = .next
      (if occ s (opp d) = false ∧ (Config.strictClearing = false ∨ s.dbStable.getLsbD 2 = false) then
        { s with
          locked := false, lockHolder := none, holder := none, fsmState := .reset, resp := some 0, frames := [] }
      else { s with resp := some 0, frames := [] })

/-- Fail-safe timeout: a holder that stops short, with nothing re-occupied, is in RESET after the armed ticks and one
FSM_STEP, with the lock released and both heads commanded RED (R288). -/
def Obligations.FailSafeTimeout : Prop :=
  ∀ (s : State) (d : Approach) (n : Nat) (q : List Input), s.fsmState = .timeout → s.holder = some d →
    s.dbStable.getLsbD 2 = false → occ s d = false → s.tmr.timeout.toNat ≤ n →
    s.inputs = tickInputs n ++ encode .fsmStep :: q →
      ∃ t : State, Host.Core.run Sys2Proof.core (n + 1) s = .next t ∧ t.fsmState = .reset ∧ t.holder = none
        ∧ t.locked = false ∧ aspectOf t .a = .red ∧ aspectOf t .b = .red

/-! ## Control -/

/-- NOP returns 0 and changes no register, and no other word of its opcode is a command (R310). -/
def Obligations.NopDoesNothing : Prop :=
  (∀ s : State, exec .nop s = .next { s with resp := some 0, frames := [] })
    ∧ (∀ data : Word, decode .command 0x0000 data = .ok .nop)
    ∧ ∀ (cmd : CmdWord) (data : Word), cmd.toNat ≤ 0x0FFF → cmd ≠ 0 → ∃ why, decode .command cmd data = .error why

/-- CFG_WRITE loads the five fields from their bits and changes no other register; a STATUS_READ 2 of what it loaded
returns the low 19 bits of the data word, so bits [31:19] reach no register (R311, R313). -/
def Obligations.CfgWriteLoadsFields : Prop :=
  ∀ (s : State) (data : Word), ∃ c : Cfg,
    exec (.cfgWrite data) s = .next { s with cfg := c, resp := some 0, frames := [] }
      ∧ c = ⟨data.extractLsb' 0 8, data.extractLsb' 8 8, data.getLsbD 16, data.getLsbD 17, data.getLsbD 18⟩
      ∧ exec (.statusRead .cfg) { s with cfg := c }
          = .next { s with cfg := c, resp := some (data &&& 0x0007FFFF), frames := [] }

/-- STATUS_READ returns each field of its page at its place, every code written out, and changes no register, `err`
included (R313, R279, R15). -/
def Obligations.StatusPages : Prop :=
  ∀ s : State,
    (∃ w : Word, exec (.statusRead .status) s = .next { s with resp := some w, frames := [] }
      ∧ w.extractLsb' 0 4 = (match s.fsmState with
          | .idle => 0 | .delay => 1 | .request => 2 | .clearance => 3 | .timeout => 4
          | .occupied => 5 | .lockout => 6 | .clearing => 7 | .reset => 8)
      ∧ w.extractLsb' 4 2 = (match s.holder with | none => 0 | some .a => 1 | some .b => 2)
      ∧ w.getLsbD 6 = s.locked
      ∧ w.extractLsb' 7 2 = (match s.lockHolder with | none => 0 | some .a => 1 | some .b => 2)
      ∧ w.extractLsb' 9 2 = (match s.aspectReg.a.aspect with | .off => 0 | .red => 1 | .green => 2)
      ∧ w.getLsbD 11 = s.aspectReg.a.flash
      ∧ w.extractLsb' 12 2 = (match s.aspectReg.b.aspect with | .off => 0 | .red => 1 | .green => 2)
      ∧ w.getLsbD 14 = s.aspectReg.b.flash
      ∧ w.extractLsb' 15 2 = (if s.fsmState = .delay ∧ s.holder = some .a then 1
          else if s.fsmState = .request ∧ s.holder = some .a then 2 else 0)
      ∧ w.extractLsb' 17 2 = (if s.fsmState = .delay ∧ s.holder = some .b then 1
          else if s.fsmState = .request ∧ s.holder = some .b then 2 else 0)
      ∧ w.getLsbD 19 = decide (s.fsmState = .timeout) ∧ w.getLsbD 20 = s.err ∧ w.getLsbD 21 = s.rngSeeded
      ∧ w.extractLsb' 22 10 = 0)
    ∧ (∃ w : Word, exec (.statusRead .errCmd) s = .next { s with resp := some w, frames := [] }
      ∧ w.toNat = s.errCmd.toNat)
    ∧ (∃ w : Word, exec (.statusRead .cfg) s = .next { s with resp := some w, frames := [] }
      ∧ w.extractLsb' 0 8 = s.cfg.dwellClass ∧ w.extractLsb' 8 8 = s.cfg.timeoutClass
      ∧ w.getLsbD 16 = s.cfg.randomized ∧ w.getLsbD 17 = s.cfg.searchlight ∧ w.getLsbD 18 = s.cfg.invert
      ∧ w.extractLsb' 19 13 = 0)
    ∧ exec (.statusRead .dbLast) s = .next { s with resp := some s.dbLast, frames := [] }

/-! ## Whole-machine rules and invariants -/

/-- Every register of the state table, and every output line, is changed only by the commands the table names for it, and a
legal command changes neither `err` nor `err_cmd` (R30); the schedule, the model's own, stays (log 1). -/
def Obligations.RegistersHaveTheirWriters : Prop :=
  ∀ (i : Instr) (s t : State), i.wf = true → exec i s = .next t →
    (i ≠ .tick → t.ms = s.ms)
      ∧ (i ≠ .tick → (∀ u v, i ≠ .tmrArm u v) → i ≠ .fsmStep → t.tmr = s.tmr)
      ∧ ((∀ raw, i ≠ .dbUpdate raw) → t.dbHist = s.dbHist ∧ t.dbStable = s.dbStable ∧ t.dbLast = s.dbLast)
      ∧ ((∀ k r, i ≠ .dwell k r) → i ≠ .fsmStep → t.rngSeeded = s.rngSeeded ∧ t.rngSeed = s.rngSeed)
      ∧ (i ≠ .fsmStep → t.fsmState = s.fsmState ∧ t.holder = s.holder)
      ∧ (i ≠ .fsmStep → (∀ d, i ≠ .lockReq d) → i ≠ .lockClr → t.locked = s.locked ∧ t.lockHolder = s.lockHolder)
      ∧ ((∀ h a f, i ≠ .aspectSet h a f) → i ≠ .aspectSync → t.aspectReg = s.aspectReg)
      ∧ (i ≠ .tick → t.target = s.target ∧ t.level = s.level ∧ t.slice = s.slice ∧ t.frame = s.frame
        ∧ t.flashPhase = s.flashPhase ∧ t.line = s.line)
      ∧ ((∀ d, i ≠ .cfgWrite d) → t.cfg = s.cfg)
      ∧ t.err = s.err ∧ t.errCmd = s.errCmd ∧ t.inputs = s.inputs

/-- RESET leaves the invariants of every run, and with a schedule free of direct-write commands those of R289; the
parameters are well-formed (R11, R282 to R286, R360). -/
def Obligations.ResetMeetsTheInvariants : Prop :=
  Config.params.wf = true ∧ EveryRun State.reset ∧ Projected State.reset
    ∧ ∀ q : List Input, FsmOnly q → FsmRun (withInputs q State.reset)

/-- R283, in every run, whatever the host issues: `holder ≠ NONE` exactly when `fsm_state ∉ {IDLE, RESET}`, after every
step. -/
def Obligations.HolderMatchesStateAlways : Prop :=
  ∀ s t : State, HolderMatches s → step s = .next t → HolderMatches t

/-- Each record invariant of every run is kept by every step: a history of all ones comes with stable bit 1 and of all
zeros with 0, an unset `err` with the reset `err_cmd`, and an unseeded source with the reset seed (R174, R53, I22). -/
def Obligations.RecordInvariantsKept : Prop :=
  ∀ s t : State, step s = .next t →
    (HistoryMatches s → HistoryMatches t) ∧ (ErrRecord s → ErrRecord t) ∧ (SeedRecord s → SeedRecord t)

/-- R282, R284 and R285, in the runs of R289: the lock is held exactly in the locked states and by the holder, the lockout
timer is 0 outside LOCKOUT and the delay timer is 0 outside DELAY, after every step. -/
def Obligations.FsmRunInvariantKept : Prop :=
  ∀ s t : State, FsmRun s → step s = .next t → FsmRun t

/-- Green only when granted: in every run from RESET without direct-write commands, after an ASPECT_SYNC and any further
steps with no FSM_STEP among them, a head commanded GREEN is the holder's in CLEARANCE or TIMEOUT, the lock is held for it
and the other head is RED (R286, R289). -/
def Obligations.GreenOnlyWhenGranted : Prop :=
  ∀ (q₁ q₂ q₃ : List Input) (e : Input) (t : State), decodeInput e = some (.ok .aspectSync) →
    (∀ x ∈ q₂, decodeInput x ≠ some (.ok .fsmStep)) → FsmOnly (q₁ ++ e :: q₂ ++ q₃) →
    runFromReset (q₁ ++ e :: q₂ ++ q₃) (q₁.length + 1 + q₂.length) = .next t → GreenOnlyGranted t

/-- A POLL pass with any number of ticks between its commands: the response's state fields are those its FSM_STEP left, its
head fields are the projection of that state, and both flash bits are 0 (R314, R316). -/
def Obligations.PollResponseIsExact : Prop :=
  ∀ (s : State) (raw : Byte) (data : Word) (n₁ n₂ n₃ n₄ : Nat) (q : List Input), HolderMatches s →
    s.inputs = encode (.cfgWrite data) :: tickInputs n₁ ++ encode (.dbUpdate raw) :: tickInputs n₂
      ++ encode .fsmStep :: tickInputs n₃ ++ encode .aspectSync :: tickInputs n₄
      ++ encode (.statusRead .status) :: q →
    ∃ (u t : State) (w : Word), Host.Core.run Sys2Proof.core (n₁ + n₂ + 3) s = .next u
      ∧ Host.Core.run Sys2Proof.core (n₁ + n₂ + n₃ + n₄ + 5) s = .next t ∧ t.inputs = q ∧ t.resp = some w
      ∧ w.extractLsb' 0 4 = fsmCode u.fsmState ∧ w.extractLsb' 4 2 = directionCode u.holder
      ∧ w.getLsbD 6 = u.locked ∧ w.extractLsb' 7 2 = directionCode u.lockHolder
      ∧ w.extractLsb' 9 2 = aspectCode (aspectOf u .a) ∧ w.extractLsb' 12 2 = aspectCode (aspectOf u .b)
      ∧ w.getLsbD 11 = false ∧ w.getLsbD 14 = false
      ∧ w.extractLsb' 15 2 = ind u .a ∧ w.extractLsb' 17 2 = ind u .b ∧ w.getLsbD 19 = waiting u ∧ w.getLsbD 20 = u.err

/-- The step form of green only when granted: in a run without direct-write commands, a step other than FSM_STEP keeps both
heads at the projection of the state machine, an ASPECT_SYNC puts them there, and where they stand at it a head commanded
GREEN is the holder's, with the lock held and the machine granting (R286, R289; the run form is `GreenOnlyWhenGranted`). -/
def Obligations.ProjectionKeptBetweenTransitions : Prop :=
  ∀ s t : State, FsmRun s → step s = .next t →
    (Projected s → s.inputs.head?.bind decodeInput ≠ some (.ok .fsmStep) →
        FsmRun t ∧ Projected t ∧ GreenOnlyGranted t)
      ∧ (s.inputs.head?.bind decodeInput = some (.ok .aspectSync) → FsmRun t ∧ Projected t ∧ GreenOnlyGranted t)
end

