-- ==== Sys2Proof/Machine/Assembler.lean ====
section
/-! DEFINITION. The assembler syntax of 30_encoding R117 to R119: one line of text to the commands it stands for. Text is
a list of characters, so that the kernel can evaluate it. What the grammar leaves open is refused (log 16). -/

namespace Sys2Proof.Machine

/-! ## Text -/

/-- A space or a tab. -/
def isBlank (c : Char) : Bool := c == ' ' || c == '\t'

/-- The text without blanks at either end. -/
def trimmed (t : List Char) : List Char := ((t.dropWhile isBlank).reverse.dropWhile isBlank).reverse

/-- The text before a comment (R117). -/
def uncommented (t : List Char) : List Char := t.takeWhile fun c => c != ';'

/-- The parts of a text between its commas, those inside parentheses not counted; `depth` is the number of open
parentheses. -/
def splitCommas : Nat → List Char → List (List Char)
  | _, [] => [[]]
  | depth, c :: rest =>
    if c == ',' && depth == 0 then [] :: splitCommas 0 rest
    else
      match splitCommas (if c == '(' then depth + 1 else if c == ')' then depth - 1 else depth) rest with
      | [] => [[c]]
      | part :: parts => (c :: part) :: parts

/-- The operands of a command: none for an empty text, else the trimmed parts between commas (R117). -/
def operandsOf (t : List Char) : List (List Char) :=
  if (trimmed t).isEmpty then [] else (splitCommas 0 (trimmed t)).map trimmed

/-! ## Numbers -/

/-- A digit of a base up to 16. -/
def digitOf (base : Nat) (c : Char) : Option Nat :=
  let n := c.toNat
  let v :=
    if 48 ≤ n ∧ n ≤ 57 then n - 48
    else if 65 ≤ n ∧ n ≤ 70 then n - 55
    else if 97 ≤ n ∧ n ≤ 102 then n - 87
    else base
  if v < base then some v else none

/-- Digits read onto a number. -/
def digitsOnto (base : Nat) : Nat → List Char → Option Nat
  | acc, [] => some acc
  | acc, c :: rest => (digitOf base c).bind fun v => digitsOnto base (acc * base + v) rest

/-- A number, decimal or `0x` hexadecimal (R117). -/
def numberOf : List Char → Option Nat
  | [] => none
  | '0' :: 'x' :: c :: rest => digitsOnto 16 0 (c :: rest)
  | t => digitsOnto 10 0 t

/-- A number that fits `w` bits. -/
def fieldOf (w : Nat) (t : List Char) : Option (BitVec w) :=
  (numberOf t).bind fun n => if n < 2 ^ w then some (BitVec.ofNat w n) else none

/-! ## Operands (R117) -/

/-- `<timer>`: `delay`, `timeout`, `lockout` or 0 to 2. DESIGN CHOICE (log 16): the line `TMR_ARM 3, 5` of listing P6 lies
outside this form and is refused. -/
def timerOperand (t : List Char) : Option Timer :=
  if t = "delay".toList then some .delay
  else if t = "timeout".toList then some .timeout
  else if t = "lockout".toList then some .lockout
  else (fieldOf 2 t).bind timerOf

/-- `<page>`: 0 to 3. -/
def pageOperand (t : List Char) : Option Page := (fieldOf 2 t).map pageOf

/-- `<A|B>` naming a head. -/
def headOperand (t : List Char) : Option Head :=
  if t = "A".toList then some .a else if t = "B".toList then some .b else none

/-- `<A|B>` naming a direction, as its selector: A 1, B 2. -/
def directionOperand (t : List Char) : Option Selector :=
  if t = "A".toList then some 1 else if t = "B".toList then some 2 else none

/-- `<OFF|RED|GREEN>`, as its aspect code. DESIGN CHOICE (log 16): the line `ASPECT_SET A, 3` of listing P6 lies outside
this form and is refused. -/
def aspectOperand (t : List Char) : Option Selector :=
  if t = "OFF".toList then some 0 else if t = "RED".toList then some 1
  else if t = "GREEN".toList then some 2 else none

/-- `<fixed|random>`. -/
def modeOperand (t : List Char) : Option Bool :=
  if t = "fixed".toList then some false else if t = "random".toList then some true else none

/-! ## The configuration word (R118) -/

/-- The fields of `CFG(...)` given so far. -/
structure CfgFields where
  dwell : Option Byte
  timeout : Option Byte
  random : Option (BitVec 1)
  searchlight : Option (BitVec 1)
  invert : Option (BitVec 1)
deriving DecidableEq, Repr

/-- One `name=value` of `CFG(...)`, of a field not given yet. -/
def cfgField (t : List Char) (f : CfgFields) : Option CfgFields :=
  let name := trimmed (t.takeWhile fun c => c != '=')
  let value := trimmed ((t.dropWhile fun c => c != '=').drop 1)
  if name = "dwell".toList ∧ f.dwell = none then
    (fieldOf 8 value).map fun v => { f with dwell := some v }
  else if name = "timeout".toList ∧ f.timeout = none then
    (fieldOf 8 value).map fun v => { f with timeout := some v }
  else if name = "random".toList ∧ f.random = none then
    (fieldOf 1 value).map fun v => { f with random := some v }
  else if name = "searchlight".toList ∧ f.searchlight = none then
    (fieldOf 1 value).map fun v => { f with searchlight := some v }
  else if name = "invert".toList ∧ f.invert = none then
    (fieldOf 1 value).map fun v => { f with invert := some v }
  else none

/-- All the fields of a `CFG(...)`. -/
def cfgFields : List (List Char) → CfgFields → Option CfgFields
  | [], f => some f
  | t :: rest, f => (cfgField t f).bind (cfgFields rest)

/-- The data word of the fields; an omitted field is 0 (R118). -/
def CfgFields.word (f : CfgFields) : Word :=
  cfgData (f.dwell.getD 0) (f.timeout.getD 0) (f.random == some 1) (f.searchlight == some 1) (f.invert == some 1)

/-- `<data32>`: a number or a `CFG(...)` (R117, R118). -/
def dataOperand (t : List Char) : Option Word :=
  match t with
  | 'C' :: 'F' :: 'G' :: '(' :: rest =>
    match rest.reverse with
    | ')' :: inner => (cfgFields (operandsOf inner.reverse) ⟨none, none, none, none, none⟩).map CfgFields.word
    | _ => none
  | _ => fieldOf 32 t

/-! ## Lines -/

/-- `TICK` is one TICK step and `TICK ×n` is `n` of them (R117). -/
def tickLine? : List (List Char) → Option (List Instr)
  | [] => some [.tick]
  | ['×' :: n] => (numberOf n).map fun k => List.replicate k .tick
  | _ => none

/-- The commands of a mnemonic with its operands: one command of the table (R117), or the expansion of a
pseudo-instruction (R119). -/
def assembleCommand (mnemonic : List Char) (ops : List (List Char)) : Option (List Instr) :=
  if mnemonic = "NOP".toList then
    match ops with | [] => some [.nop] | _ => none
  else if mnemonic = "TMR_ARM".toList then
    match ops with
    | [t, v] => (timerOperand t).bind fun u => (fieldOf 32 v).map fun w => [.tmrArm (timerCode u) w]
    | _ => none
  else if mnemonic = "TMR_READ".toList then
    match ops with | [t] => (timerOperand t).map fun u => [.tmrRead u] | _ => none
  else if mnemonic = "MS_READ".toList then
    match ops with | [] => some [.msRead] | _ => none
  else if mnemonic = "DB_UPDATE".toList then
    match ops with | [r] => (fieldOf 8 r).map fun raw => [.dbUpdate raw] | _ => none
  else if mnemonic = "DB_READ".toList then
    match ops with | [] => some [.dbRead] | _ => none
  else if mnemonic = "DWELL".toList then
    match ops with
    | [k, m] => (fieldOf 8 k).bind fun cls => (modeOperand m).map fun r => [.dwell cls r]
    | _ => none
  else if mnemonic = "LOCK_REQ".toList then
    match ops with | [d] => (directionOperand d).map fun x => [.lockReq x] | _ => none
  else if mnemonic = "LOCK_CLR".toList then
    match ops with | [] => some [.lockClr] | _ => none
  else if mnemonic = "ASPECT_SET".toList then
    match ops with
    | [h, a] => (headOperand h).bind fun x => (aspectOperand a).map fun y => [.aspectSet x y false]
    | [h, a, f] =>
      if f = "FLASH".toList then (headOperand h).bind fun x => (aspectOperand a).map fun y => [.aspectSet x y true]
      else none
    | _ => none
  else if mnemonic = "FSM_STEP".toList then
    match ops with | [] => some [.fsmStep] | _ => none
  else if mnemonic = "CFG_WRITE".toList then
    match ops with | [d] => (dataOperand d).map fun w => [.cfgWrite w] | _ => none
  else if mnemonic = "ASPECT_SYNC".toList then
    match ops with | [] => some [.aspectSync] | _ => none
  else if mnemonic = "STATUS_READ".toList then
    match ops with | [p] => (pageOperand p).map fun x => [.statusRead x] | _ => none
  else if mnemonic = "PWM_READ".toList then
    match ops with | [h] => (headOperand h).map fun x => [.pwmRead x] | _ => none
  else if mnemonic = "TICK".toList then tickLine? ops
  else if mnemonic = "TMR_CLR".toList then
    match ops with | [t] => (timerOperand t).map tmrClr | _ => none
  else if mnemonic = "STATUS".toList then
    match ops with | [] => some statusPseudo | _ => none
  else if mnemonic = "POLL".toList then
    match ops with
    | [r, d] => (fieldOf 8 r).bind fun raw => (dataOperand d).map fun w => poll raw w
    | _ => none
  else none

/-- One line of text: nothing for an empty or comment line, else its commands in order; none where the line does not
follow the syntax (R117 to R119). -/
def assembleLine (line : List Char) : Option (List Instr) :=
  let t := trimmed (uncommented line)
  if t.isEmpty then some []
  else assembleCommand (t.takeWhile fun c => !isBlank c) (operandsOf (t.dropWhile fun c => !isBlank c))

/-- The input steps a line presents, in order: each command's word and data word on its port (R100, R117). -/
def lineInputs (line : List Char) : Option (List Input) := (assembleLine line).map fun cmds => cmds.map encode

end Sys2Proof.Machine
end

