-- ==== Sys2Proof/Tests/Slice0.lean ====
section
/-! SUPPORT. Tests of single steps and of the decoder, with expected values from the spec's encodings (30_encoding) and
vectors (95_test_vectors), and one witness for every statement that has hypotheses. -/

namespace Sys2Proof.Tests

open Sys2Proof.Machine

/-! ## Helpers -/

/-- The next state of an outcome, if there is one. -/
def next? : Host.Outcome State Fault Refusal → Option State
  | .next s => some s
  | .fault _ => none
  | .refused _ => none

/-- A field of the next state. -/
def get {α : Type} (f : State → α) (o : Host.Outcome State Fault Refusal) : Option α := (next? o).map f

/-- The next state, or the reset state where there is none. -/
def after (o : Host.Outcome State Fault Refusal) : State := (next? o).getD State.reset

/-- The state of approach A being served, with the lock held. -/
def servingA (x : InterlockState) : State :=
  { State.reset with fsmState := x, holder := some .a, locked := true, lockHolder := some .a }

/-- The reset state with a schedule. -/
def scheduled (q : List Input) : State := withInputs q State.reset

/-! ## Well-formedness -/

theorem test_wf_refuses_timer_3 : (Instr.tmrArm 3 5).wf = false := by decide
theorem test_wf_refuses_direction_none : (Instr.lockReq 0).wf = false := by decide
theorem test_wf_refuses_direction_3 : (Instr.lockReq 3).wf = false := by decide
theorem test_wf_refuses_aspect_3 : (Instr.aspectSet .b 3 true).wf = false := by decide
theorem test_wf_accepts : (Instr.tmrArm 2 5).wf && (Instr.lockReq 2).wf && (Instr.aspectSet .b 2 true).wf = true := by
  decide

/-! One parameter record for each check of R11. -/

theorem test_params_accepted : Config.params.accept.isSome = true := by decide
theorem test_params_refuse_sizes : ({ Config.params with timeoutS := [] }).accept = none := by decide
theorem test_params_refuse_range : ({ Config.params with dwellTable := [⟨6, 5, .none⟩] }).rangesOk = false := by decide
theorem test_params_refuse_lockout : ({ Config.params with lockoutTicks := 2 ^ 32 }).armsOk = false := by decide
theorem test_params_refuse_timeout : ({ Config.params with timeoutS := [4294968] }).armsOk = false := by decide
theorem test_params_refuse_slices : ({ Config.params with pwmSlices := 31 }).slicesOk = false := by decide
theorem test_params_refuse_widths : ({ Config.params with dbLanes := 3 }).widthsOk = false := by decide

/-! ## Decoding: words written out from the encoding tables (R108, R117) -/

theorem test_decode_nop : decode .command 0b0000000000000000 0 = .ok .nop := by rfl
theorem test_decode_tmr_arm : decode .command 0b0001000100000000 10000 = .ok (.tmrArm 1 10000) := by rfl
theorem test_decode_tmr_read : decode .command 0b0010001000000000 0 = .ok (.tmrRead .lockout) := by rfl
theorem test_decode_ms_read : decode .command 0b0010001100000000 0 = .ok .msRead := by rfl
theorem test_decode_db_update : decode .command 0b0100000010000001 0 = .ok (.dbUpdate 0x81) := by rfl
theorem test_decode_db_read : decode .command 0b0101000000000000 0 = .ok .dbRead := by rfl
theorem test_decode_dwell : decode .command 0b0110000111111111 0 = .ok (.dwell 255 true) := by rfl
theorem test_decode_lock_req : decode .command 0b0111001000000000 0 = .ok (.lockReq 2) := by rfl
theorem test_decode_lock_clr : decode .command 0b1000000000000000 0 = .ok .lockClr := by rfl
theorem test_decode_aspect_set : decode .command 0b1001000100000110 0 = .ok (.aspectSet .b 2 true) := by rfl
theorem test_decode_fsm_step : decode .command 0b1010000000000000 0 = .ok .fsmStep := by rfl
theorem test_decode_cfg_write : decode .command 0b1011000000000000 0x10102 = .ok (.cfgWrite 0x10102) := by rfl
theorem test_decode_aspect_sync : decode .command 0b1100000000000000 0 = .ok .aspectSync := by rfl
theorem test_decode_status_read : decode .command 0b1101001000000000 0 = .ok (.statusRead .cfg) := by rfl
theorem test_decode_pwm_read : decode .command 0b1110000100000000 0 = .ok (.pwmRead .b) := by rfl
theorem test_decode_tick : decode .tick 0b1111000000000000 0 = .ok .tick := by rfl

/-- Every word of V1 is rejected, by the name of the rule the vector gives. -/
theorem test_decode_illegal :
    [(0x3000 : CmdWord), 0x3FFF].all (whyIllegal .command · = .reservedOpcode)
      && (whyIllegal .command 0xF000 = .tickOnCommandPort)
      && [(0x0001 : CmdWord), 0x1400, 0x2001, 0x2301, 0x4400, 0x4100, 0x5100, 0x6200, 0x8001, 0x9008, 0xA100, 0xC001,
          0xD001, 0xE001, 0xE200].all (whyIllegal .command · = .mustBeZero)
      && [(0x1300 : CmdWord), 0x7000, 0x7300, 0x9003, 0x9107].all (whyIllegal .command · = .fieldValue) = true := by
  decide

/-- No row of the map reads a word of V1. -/
theorem test_decode_illegal_no_row :
    [(0x3000 : CmdWord), 0x3FFF, 0xF000, 0x0001, 0x1400, 0x2001, 0x2301, 0x4400, 0x4100, 0x5100, 0x6200, 0x8001, 0x9008,
      0xA100, 0xC001, 0xD001, 0xE001, 0xE200, 0x1300, 0x7000, 0x7300, 0x9003, 0x9107].all
        (fun w => (opcodeTable.findSome? fun row => row.decode .command w 0).isNone) = true := by decide

/-- The data word of a table word stands in bits [47:16]. -/
theorem test_table_word_data : decodeTableWord 48 0x000027101100 = some (.tmrArm 1 10000) := by decide

theorem test_table_word_tick : decodeTableWord 16 0xF000 = some .tick := by decide

theorem test_fetch_word : get (·.resp) (step (State.reset.withFetchWord 16 0xD000)) = some (some 0x00001200) := by decide

/-! ## Assembler (R117 to R119) -/

theorem test_assemble_operands :
    assembleLine "TMR_ARM timeout, 10000 ; ten seconds".toList = some [.tmrArm 1 10000]
      ∧ assembleLine "ASPECT_SET B, GREEN, FLASH".toList = some [.aspectSet .b 2 true] := by decide

theorem test_assemble_pseudo :
    assembleLine "POLL 0x01, CFG(dwell=2, timeout=1, random=1)".toList
      = some [.cfgWrite 0x00010102, .dbUpdate 1, .fsmStep, .aspectSync, .statusRead .status]
      ∧ assembleLine "TMR_CLR lockout".toList = some [.tmrArm 2 0]
      ∧ assembleLine "TICK ×3".toList = some [.tick, .tick, .tick] := by decide

theorem test_assemble_refuses :
    assembleLine "LOCK_REQ C".toList = none ∧ assembleLine "DB_UPDATE 0x100".toList = none
      ∧ assembleLine "ASPECT_SET A, 3".toList = none ∧ assembleLine "TMR_ARM 3, 5".toList = none := by decide

/-! ## Steps -/

-- V10, V11
theorem test_tick_counts :
    get (fun s => (s.ms, s.tmr, s.slice, s.resp)) (exec .tick { State.reset with ms := 41, tmr := ⟨3, 0, 7⟩ })
      = some (42, ⟨2, 0, 6⟩, 1, none) := by decide

-- P4: the cycle boundary retargets head A to GREEN, and the same TICK takes the first fade step
theorem test_tick_cycle_boundary :
    get (fun s => (s.target.a, s.level.a, s.level.b, s.flashPhase, s.frame))
      (exec .tick { State.reset with slice := 31, frame := 31, aspectReg := ⟨⟨false, .green⟩, ⟨false, .red⟩⟩ })
      = some (⟨0, 31⟩, ⟨30, 1⟩, ⟨31, 0⟩, true, 0) := by decide

-- V95
theorem test_nop : exec .nop State.reset = .next { State.reset with resp := some 0 } := by rfl

-- V14, V17
theorem test_tmr_arm :
    get (fun s => (s.tmr, s.resp)) (exec (.tmrArm 0 10) { State.reset with tmr := ⟨1, 2, 3⟩ })
      = some (⟨10, 2, 3⟩, some 0) := by decide
-- P6: TMR_ARM 3 is illegal and writes no timer
theorem test_tmr_arm_illegal :
    get (fun s => (s.tmr, s.err, s.errCmd)) (exec (.tmrArm 3 5) State.reset) = some (⟨0, 0, 0⟩, true, 0x1300) := by decide

-- the example of R145
theorem test_tmr_read :
    get (·.resp) (exec (.tmrRead .lockout) { State.reset with tmr := ⟨1, 2, 4999⟩ }) = some (some 4999) := by decide

-- the example of R146
theorem test_ms_read : get (·.resp) (exec .msRead { State.reset with ms := 1234 }) = some (some 1234) := by decide

-- V23
theorem test_db_update_eighth_sample :
    get (fun s => (s.dbHist, s.dbStable, s.dbLast))
      (exec (.dbUpdate 0x01) { State.reset with ms := 200, dbLast := 190, dbHist := #v[0x7F, 0, 0, 0, 0, 0, 0, 0] })
      = some (#v[0xFF, 0, 0, 0, 0, 0, 0, 0], 1, 200) := by decide
-- V24
theorem test_db_update_across_wrap :
    get (fun s => (s.dbHist[0], s.dbLast)) (exec (.dbUpdate 0x01) { State.reset with ms := 5, dbLast := 0xFFFFFFFB })
      = some (1, 5) := by decide

-- the example of R173
theorem test_db_read : get (·.resp) (exec .dbRead { State.reset with dbStable := 0b101 }) = some (some 5) := by decide

-- V42
theorem test_dwell_clamps : get (·.resp) (exec (.dwell 255 false) State.reset) = some (some 35) := by decide
-- P6: the first randomized computation seeds from `ms`
theorem test_dwell_seeds :
    get (fun s => (s.rngSeeded, s.rngSeed)) (exec (.dwell 0 true) { State.reset with ms := 7 }) = some (true, 7) := by
  decide

-- the example of R263
theorem test_lock_req_granted :
    get (fun s => (s.resp, s.locked, s.lockHolder)) (exec (.lockReq 1) { State.reset with dbStable := 0b001 })
      = some (some 1, true, some .a) := by decide
-- a request while the lock is held fails (R263)
theorem test_lock_req_held :
    get (fun s => (s.resp, s.locked, s.lockHolder)) (exec (.lockReq 2) (servingA .clearance))
      = some (some 0, true, some .a) := by decide

-- the example of R264
theorem test_lock_clr :
    get (fun s => (s.locked, s.lockHolder, s.resp))
      (exec .lockClr { State.reset with locked := true, lockHolder := some .b }) = some (false, none, some 0) := by decide

-- the example of R211
theorem test_aspect_set :
    get (·.aspectReg) (exec (.aspectSet .a 2 false) State.reset) = some ⟨⟨false, .green⟩, ⟨false, .red⟩⟩ := by decide
theorem test_aspect_set_flash :
    get (·.aspectReg) (exec (.aspectSet .b 0 true) State.reset) = some ⟨⟨false, .red⟩, ⟨true, .off⟩⟩ := by decide

-- V76: the junction wins, and the timer is left as it is
theorem test_fsm_step_timeout :
    get (fun s => (s.fsmState, s.tmr, s.holder, s.locked))
      (exec .fsmStep { servingA .timeout with dbStable := 0x05, tmr := ⟨0, 3, 0⟩ })
      = some (.occupied, ⟨0, 3, 0⟩, some .a, true) := by decide
-- V86: both values of STRICT_CLEARING
theorem test_fsm_step_clearing :
    get (·.fsmState) (fsmCommand { Config.params with strictClearing := true } { servingA .clearing with dbStable := 4 })
        = some .clearing
      ∧ get (fun s => (s.fsmState, s.holder, s.locked))
        (fsmCommand { Config.params with strictClearing := false } { servingA .clearing with dbStable := 4 })
        = some (.reset, none, false) := by decide

-- V96
theorem test_cfg_write :
    get (·.cfg) (exec (.cfgWrite 0x00010102) State.reset) = some ⟨2, 1, true, false, false⟩ := by decide
theorem test_cfg_write_masks :
    get (fun s => cfgBits s.cfg) (exec (.cfgWrite 0xFFFFFFFF) State.reset) = some 0x0007FFFF := by decide

-- the example of R212
theorem test_aspect_sync :
    get (·.aspectReg) (exec .aspectSync (servingA .clearance)) = some ⟨⟨false, .green⟩, ⟨false, .red⟩⟩ := by decide

-- the status words of P1 and P6
theorem test_status_clearance :
    get (·.resp) (exec (.statusRead .status)
      { servingA .clearance with aspectReg := ⟨⟨false, .green⟩, ⟨false, .red⟩⟩ }) = some (some 0x000014D3) := by decide
theorem test_status_error :
    get (·.resp) (exec (.statusRead .status)
      { State.reset with locked := true, lockHolder := some .a, err := true, rngSeeded := true })
      = some (some 0x003012C0) := by decide

-- the example of R213, and P1
theorem test_pwm_read : get (·.resp) (exec (.pwmRead .a) State.reset) = some (some 0x00007C1F) := by decide
theorem test_pwm_read_phase :
    get (·.resp) (exec (.pwmRead .b) { State.reset with slice := 16, frame := 2 }) = some (some 0x05007C1F) := by decide

-- V2: the first error is kept
theorem test_illegal_keeps_first :
    get (fun s => (s.err, s.errCmd, s.resp))
      (step { scheduled [.command 0x9003 0] with err := true, errCmd := 0x3000 }) = some (true, 0x3000, some 0) := by decide

-- V110
theorem test_reset :
    get (fun s => (s.ms, s.err, s.aspectReg.a, s.resp))
      (step { servingA .lockout with ms := 9, err := true, resp := some 7, inputs := [.reset] })
      = some (0, false, ⟨false, .red⟩, none) := by decide

/-! ## Witnesses: concrete states and operands that meet the hypotheses of the statements -/

/-- A TICK step on the tick port. -/
abbrev tickIn : Input := .tickPort 0xF000

theorem witness_DecodeOfEncode : (Instr.aspectSet .b 2 true).wf = true ∧ Instr.tick.wf = true := by decide

theorem witness_DecodedWordIsItsEncoding :
    decode .command 0x9106 0 = .ok (.aspectSet .b 2 true) ∧ decode .tick 0xF000 0 = .ok .tick := ⟨rfl, rfl⟩

theorem witness_OpcodeRowsDoNotOverlap :
    ∃ r ∈ opcodeTable, r.mnemonic = "MS_READ" ∧ r.decode .command 0x2300 0 ≠ none := by decide

theorem witness_OnlyTheTickPortAdvancesTime :
    0xF000 ≤ (0xF000 : CmdWord).toNat ∧ 0xF000 ≤ (0xFFFF : CmdWord).toNat
      ∧ (scheduled [.command 0xFFFF 0]).inputs = .command 0xFFFF 0 :: []
      ∧ step (scheduled [.command 0x2300 0]) = .next (after (step (scheduled [.command 0x2300 0]))) :=
  ⟨by decide, by decide, rfl, rfl⟩

theorem witness_IllegalWordsRaise :
    (0x3000 ≤ (0x3FFF : CmdWord).toNat ∧ (0x3FFF : CmdWord).toNat ≤ 0x3FFF)
      ∧ (0x3000 ≤ (0x3000 : CmdWord).toNat ∧ (0x3000 : CmdWord).toNat ≤ 0x3FFF)
      ∧ (0x9107 : CmdWord) ∈ [(0x1300 : CmdWord), 0x7000, 0x7300, 0x9003, 0x9007, 0x9103, 0x9107]
      ∧ (scheduled [.command 0x9107 0]).inputs = .command 0x9107 0 :: [] ∧ 7 ≤ (7 : Byte).toNat
      ∧ 7 ≤ (255 : Byte).toNat := by decide

theorem witness_StepRunsDecoded :
    (scheduled [tickIn, .command 0 0]).inputs = tickIn :: [.command 0 0] ∧ decodeInput tickIn = some (.ok .tick) :=
  ⟨rfl, rfl⟩

theorem witness_StepOutsideTheSpecsInputs :
    State.reset.inputs = [] ∧ (0xF001 : CmdWord) ≠ 0xF000 ∧ (scheduled [.tickPort 0xF001]).inputs = .tickPort 0xF001 :: [] := by
  decide

theorem witness_IllegalCommandIsPrecise :
    (scheduled [.command 0x0001 7]).inputs = .command 0x0001 7 :: []
      ∧ decode .command 0x0001 7 = .error .mustBeZero ∧ (Instr.lockReq 3).wf = false := ⟨rfl, rfl, rfl⟩

theorem witness_ErrorIsSticky :
    let s := { scheduled [.command 0 0] with err := true, errCmd := 0x3000 }
    let u := scheduled [.command 0x3000 0]
    (s.err = true ∧ s.inputs.head? ≠ some .reset ∧ step s = .next (after (step s)))
      ∧ (u.err = false ∧ u.inputs = .command 0x3000 0 :: [] ∧ decode .command 0x3000 0 = .error .reservedOpcode)
      ∧ (step u = .next (after (step u)) ∧ (after (step u)).err = true) :=
  ⟨⟨rfl, by decide, rfl⟩, ⟨rfl, rfl, rfl⟩, rfl, rfl⟩

theorem witness_ResetWritesEveryRegister : (scheduled [.reset, tickIn]).inputs = .reset :: [tickIn] := rfl

theorem witness_EveryStepCompletes :
    let s := { servingA .clearance with inputs := [.command 0xA000 0] }
    (HolderMatches s ∧ ∀ w : CmdWord, s.inputs.head? = some (.tickPort w) → w = 0xF000)
      ∧ HolderMatches (scheduled [tickIn])
      ∧ ∀ w : CmdWord, (scheduled [tickIn]).inputs.head? = some (.tickPort w) → w = 0xF000 :=
  ⟨⟨by decide, fun w h => by cases h⟩, by decide, fun w h => by cases h; rfl⟩

/-- A run of steps: the states along a schedule. -/
def states (s : State) : Nat → State
  | 0 => s
  | k + 1 => after (step (states s k))

/-- A schedule of two ticks with a NOP between them. -/
def tickNopTick : State := { scheduled [tickIn, .command 0 0, tickIn] with tmr := ⟨2, 1, 0⟩ }

theorem witness_TimerAfterTicks :
    ∀ k < 3, step (states tickNopTick k) = .next (states tickNopTick (k + 1))
      ∧ (ticksNext (states tickNopTick k) = false →
        readTimer (states tickNopTick (k + 1)).tmr .timeout = readTimer (states tickNopTick k).tmr .timeout) := by
  intro k hk
  obtain rfl | rfl | rfl : k = 0 ∨ k = 1 ∨ k = 2 := by omega
  all_goals exact ⟨rfl, by decide⟩

theorem witness_PhaseAfterTicks :
    ({ scheduled (tickInputs 2 ++ []) with slice := 31, frame := 31 } : State).inputs = tickInputs 2 ++ [] := rfl

theorem witness_DbUpdateThrottlesAndShifts :
    ((9 : Word) - 0).toNat < 10 ∧ 10 ≤ ((10 : Word) - 0).toNat ∧ 10 ≤ ((5 : Word) - 0xFFFFFFFB).toNat := by decide

theorem witness_LaneIndependence :
    let s := { State.reset with ms := 10 }
    let u := { s with dbHist := #v[0, 3, 0, 0, 0, 0, 0, 0] }
    s.ms = u.ms ∧ s.dbLast = u.dbLast ∧ s.dbHist[(0 : Fin 8)] = u.dbHist[(0 : Fin 8)]
      ∧ s.dbStable.getLsbD (0 : Fin 8) = u.dbStable.getLsbD (0 : Fin 8)
      ∧ (0x01 : Byte).getLsbD (0 : Fin 8) = (0x03 : Byte).getLsbD (0 : Fin 8)
      ∧ exec (.dbUpdate 0x01) s = .next (after (exec (.dbUpdate 0x01) s))
      ∧ exec (.dbUpdate 0x03) u = .next (after (exec (.dbUpdate 0x03) u)) :=
  ⟨rfl, rfl, rfl, rfl, rfl, rfl, rfl⟩

/-- The state ten ticks later, as far as the debounce filter sees it. -/
def tenLater (s : State) : State := { s with ms := s.ms + 10 }

/-- Accepted updates of lane 0 with the sample 1. -/
def sampled : Nat → State
  | 0 => State.reset
  | k + 1 => after (exec (.dbUpdate 0x01) (tenLater (sampled k)))

theorem witness_StableInputReachesOutput :
    ∀ k < 8, (tenLater (sampled k)).dbHist = (sampled k).dbHist ∧ (tenLater (sampled k)).dbStable = (sampled k).dbStable
      ∧ 10 ≤ ((tenLater (sampled k)).ms - (tenLater (sampled k)).dbLast).toNat ∧ (0x01 : Byte).getLsbD (0 : Fin 8) = true
      ∧ exec (.dbUpdate 0x01) (tenLater (sampled k)) = .next (sampled (k + 1)) := by
  intro k hk
  refine ⟨rfl, rfl, ?_, rfl, rfl⟩
  revert k
  decide

theorem witness_StableChangesOnlyOnEightEqual :
    let s := { scheduled [.command 0x4001 0] with ms := 200, dbLast := 190, dbHist := #v[0x7F, 0, 0, 0, 0, 0, 0, 0] }
    s.inputs.head? ≠ some .reset ∧ step s = .next (after (step s))
      ∧ (after (step s)).dbStable.getLsbD (0 : Fin 8) ≠ s.dbStable.getLsbD (0 : Fin 8) := ⟨by decide, rfl, by decide⟩

theorem witness_DwellRandomInRange :
    (4 ≤ (4 : Byte).toNat ∧ (6 : Byte).toNat ≤ 6) ∧ 7 ≤ (7 : Byte).toNat ∧ 7 ≤ (255 : Byte).toNat := by decide

theorem witness_SeededOnce :
    let s := { scheduled [.command 0x6104 0] with rngSeeded := true, rngSeed := 7, ms := 9 }
    s.rngSeeded = true ∧ s.inputs.head? ≠ some .reset ∧ step s = .next (after (step s))
      ∧ State.reset.rngSeeded = false := ⟨rfl, by decide, rfl, rfl⟩

theorem witness_SeededOnce_pick :
    let s := { State.reset with dbStable := 1, cfg := ⟨4, 0, true, false, false⟩, ms := 80 }
    let u := { s with cfg := ⟨4, 0, false, false, false⟩ }
    (s.fsmState = .idle ∧ s.cfg.randomized = true ∧ s.rngSeeded = false ∧ s.tmr.lockout = 0
      ∧ (s.dbStable.getLsbD 0 = true ∨ s.dbStable.getLsbD 1 = true))
      ∧ u.cfg.randomized = false ∧ exec .fsmStep u = .next (after (exec .fsmStep u)) := ⟨by decide, rfl, rfl⟩

theorem witness_OnlyTickDrivesLines :
    (scheduled [.command 0x3000 0]).inputs = .command 0x3000 0 :: []
      ∧ step (scheduled [.command 0x3000 0]) = .next (after (step (scheduled [.command 0x3000 0]))) := ⟨rfl, rfl⟩

theorem witness_FrameEventsAtFirstSlice :
    ({ State.reset with slice := 31 } : State).slice ≠ 0 ∧ State.reset.slice = 0 ∧ State.reset.cfg.invert = false
      ∧ ({ State.reset with cfg := ⟨0, 0, false, false, true⟩ } : State).cfg.invert = true := by decide

theorem witness_TickSequencesFramesAndCycles :
    let s := { State.reset with slice := 31, frame := 31, aspectReg := ⟨⟨true, .red⟩, ⟨false, .green⟩⟩ }
    s.slice = 31 ∧ s.frame = 31 ∧ ({ State.reset with slice := 30 } : State).slice ≠ 31
      ∧ ({ State.reset with slice := 31, frame := 30 } : State).frame ≠ 31 := by decide

theorem witness_StandardFadeLength : 31 ≤ 31 ∧ 30 < 31 ∧ 0 < 31 := by decide

theorem witness_SearchlightFadeLength : 31 ≤ 31 ∧ 62 ≤ 62 := by decide

theorem witness_PolarityOnlyAtOutputs :
    let u := { State.reset with cfg := ⟨0, 0, false, false, true⟩ }
    State.reset.cfg.invert = false ∧ exec .tick State.reset = .next (after (exec .tick State.reset))
      ∧ exec .tick u = .next (after (exec .tick u)) := ⟨rfl, rfl, rfl⟩

theorem witness_FrameDutyIsProportional :
    (states tickNopTick 0).slice = 0 ∧ ticksIn (states tickNopTick) 2 < 32 ∧ ticksNext (states tickNopTick 2) = true
      ∧ ∀ k ≤ 2, step (states tickNopTick k) = .next (states tickNopTick (k + 1))
        ∧ (states tickNopTick k).inputs.head? ≠ some .reset
        ∧ (states tickNopTick k).cfg.invert = (states tickNopTick 0).cfg.invert := by
  refine ⟨rfl, by decide, by decide, fun k hk => ?_⟩
  obtain rfl | rfl | rfl : k = 0 ∨ k = 1 ∨ k = 2 := by omega
  all_goals exact ⟨rfl, by decide, rfl⟩

theorem witness_AspectReachesTargetInOneCycle :
    let s := { scheduled (tickInputs 1 ++ []) with slice := 31, frame := 31 }
    1 = 1024 - (s.slice.toNat + 32 * s.frame.toNat) ∧ s.inputs = tickInputs 1 ++ []
      ∧ 1024 = 1024 - (State.reset.slice.toNat + 32 * State.reset.frame.toNat) := by decide

theorem witness_DriverOwnership :
    exec (.tmrArm 1 5) State.reset = .next (after (exec (.tmrArm 1 5) State.reset)) ∧ Instr.tmrArm 1 5 ≠ .tick
      ∧ Instr.tmrArm 1 5 ≠ .aspectSync := ⟨rfl, by decide, by decide⟩

theorem witness_AspectSetWritesOneHead : Head.b ≠ Head.a := by decide

theorem witness_TmrArmWritesOneTimer : Timer.delay ≠ Timer.lockout := by decide

theorem witness_LockCommands :
    (State.reset.locked = false ∧ State.reset.dbStable.getLsbD 2 = false) ∧ (servingA .clearance).locked = true
      ∧ ({ State.reset with dbStable := 4 } : State).dbStable.getLsbD 2 = true := by decide

theorem witness_MutualExclusion :
    let s := scheduled [.command 0x7100 0]
    let u := { servingA .clearance with inputs := [.command 0x7200 0] }
    (LockRecord s ∧ step s = .next (after (step s)) ∧ s.locked = false ∧ (after (step s)).locked = true)
      ∧ LockRecord u ∧ step u = .next (after (step u)) ∧ u.locked = true ∧ (after (step u)).locked = true :=
  ⟨⟨by decide, rfl, rfl, rfl⟩, by decide, rfl, rfl, rfl⟩

theorem witness_FsmIdleFixed :
    let s := { State.reset with dbStable := 0x03, cfg := ⟨255, 0, false, false, false⟩ }
    s.fsmState = .idle ∧ s.cfg.randomized = false ∧ s.tmr.lockout = 0 := by decide

theorem witness_FsmIdleRandom :
    let s := { State.reset with dbStable := 0x02, cfg := ⟨4, 0, true, false, false⟩ }
    let u := { s with tmr := ⟨0, 0, 7⟩ }
    s.fsmState = .idle ∧ s.cfg.randomized = true
      ∧ (s.tmr.lockout = 0 ∧ (s.dbStable.getLsbD 0 = true ∨ s.dbStable.getLsbD 1 = true))
      ∧ ¬(u.tmr.lockout = 0 ∧ (u.dbStable.getLsbD 0 = true ∨ u.dbStable.getLsbD 1 = true))
      ∧ (4 ≤ s.cfg.dwellClass.toNat ∧ s.cfg.dwellClass.toNat ≤ 6) := by decide

theorem witness_FsmRequest :
    let s := { State.reset with fsmState := .request, holder := some .b }
    s.fsmState = .request ∧ s.holder = some .b := by decide

theorem witness_FsmClearance :
    (servingA .clearance).fsmState = .clearance ∧ (servingA .clearance).holder = some .a := by decide

theorem witness_FsmTimeout : (servingA .timeout).fsmState = .timeout ∧ (servingA .timeout).holder = some .a := by decide

theorem witness_FsmOccupied :
    (servingA .occupied).fsmState = .occupied ∧ (servingA .occupied).holder = some .a := by decide

theorem witness_FsmDelayLockoutReset :
    ({ State.reset with fsmState := .delay, holder := some .a } : State).fsmState = .delay
      ∧ (servingA .lockout).fsmState = .lockout ∧ ({ State.reset with fsmState := .reset } : State).fsmState = .reset := by
  decide

theorem witness_FsmClearing :
    (servingA .clearing).fsmState = .clearing ∧ (servingA .clearing).holder = some .a := by decide

theorem witness_FailSafeTimeout :
    let s := { servingA .timeout with tmr := ⟨0, 2, 0⟩, inputs := tickInputs 2 ++ encode .fsmStep :: [] }
    s.fsmState = .timeout ∧ s.holder = some .a ∧ s.dbStable.getLsbD 2 = false ∧ occ s .a = false
      ∧ s.tmr.timeout.toNat ≤ 2 ∧ s.inputs = tickInputs 2 ++ encode .fsmStep :: [] := by decide

theorem witness_NopDoesNothing : (0x0FFF : CmdWord).toNat ≤ 0x0FFF ∧ (0x0001 : CmdWord) ≠ 0 := by decide

theorem witness_RegistersHaveTheirWriters :
    ((Instr.cfgWrite 5).wf = true ∧ exec (.cfgWrite 5) State.reset = .next (after (exec (.cfgWrite 5) State.reset))
        ∧ Instr.cfgWrite 5 ≠ .tick ∧ Instr.cfgWrite 5 ≠ .fsmStep ∧ Instr.cfgWrite 5 ≠ .aspectSync)
      ∧ Instr.tick.wf = true ∧ exec .tick State.reset = .next (after (exec .tick State.reset))
      ∧ ∀ d, Instr.tick ≠ .cfgWrite d :=
  ⟨⟨rfl, rfl, by decide, by decide, by decide⟩, rfl, rfl, fun d h => by cases h⟩

theorem witness_ResetMeetsTheInvariants : FsmOnly [tickIn, .command 0xA000 0, .command 0xC000 0, .reset] := by decide

theorem witness_HolderMatchesStateAlways :
    let s := { State.reset with dbStable := 1, inputs := [.command 0xA000 0] }
    HolderMatches s ∧ step s = .next (after (step s)) ∧ (after (step s)).holder ≠ none := ⟨by decide, rfl, by decide⟩

theorem witness_RecordInvariantsKept :
    let s := { scheduled [.command 0x4001 0] with ms := 200, dbLast := 190, dbHist := #v[0x7F, 0, 0, 0, 0, 0, 0, 0] }
    step s = .next (after (step s)) ∧ HistoryMatches s ∧ ErrRecord s ∧ SeedRecord s := ⟨rfl, by decide, by decide, by decide⟩

theorem witness_FsmRunInvariantKept :
    let s := { State.reset with fsmState := .request, holder := some .a, inputs := [.command 0xA000 0] }
    FsmRun s ∧ step s = .next (after (step s)) ∧ (after (step s)).fsmState = .clearance := ⟨by decide, rfl, by decide⟩

theorem eq_next_after (o : Host.Outcome State Fault Refusal) (h : (next? o).isSome = true) : o = .next (after o) := by
  cases o with
  | next s => rfl
  | fault r => cases h
  | refused r => cases h

/-- The inputs by which approach A, once occupied, is granted: P1 without its reads. -/
def grantInputs : List Input :=
  (List.replicate 8 (tickInputs 10 ++ [.command 0x4001 0])).flatten ++ List.replicate 3 (.command 0xA000 0)

theorem witness_GreenOnlyWhenGranted :
    let q := grantInputs ++ .command 0xC000 0 :: [tickIn] ++ [.reset]
    let k := grantInputs.length + 1 + [tickIn].length
    decodeInput (.command 0xC000 0) = some (.ok .aspectSync)
      ∧ (∀ x ∈ [tickIn], decodeInput x ≠ some (.ok .fsmStep)) ∧ FsmOnly q
      ∧ runFromReset q k = .next (after (runFromReset q k))
      ∧ (atHead (after (runFromReset q k)).aspectReg .a).aspect = .green := by
  refine ⟨rfl, ?_, by decide +kernel, eq_next_after _ (by decide +kernel), by decide +kernel⟩
  intro x hx
  obtain rfl : x = tickIn := by simpa using hx
  exact fun h => by cases h

theorem witness_ProjectionKeptBetweenTransitions :
    let granted := { servingA .clearance with aspectReg := ⟨⟨false, .green⟩, ⟨false, .red⟩⟩ }
    let s := { granted with inputs := [tickIn] }
    let u := { servingA .timeout with inputs := [.command 0xC000 0] }
    (FsmRun s ∧ step s = .next (after (step s)) ∧ Projected s
      ∧ s.inputs.head?.bind decodeInput ≠ some (.ok .fsmStep) ∧ (atHead (after (step s)).aspectReg .a).aspect = .green)
      ∧ FsmRun u ∧ step u = .next (after (step u)) ∧ u.inputs.head?.bind decodeInput = some (.ok .aspectSync)
      ∧ (atHead (after (step u)).aspectReg .a).aspect = .green :=
  ⟨⟨by decide, rfl, fun h => (by cases h <;> rfl), by decide, rfl⟩, by decide, rfl, rfl, rfl⟩

theorem witness_PollResponseIsExact :
    let s := { servingA .clearance with
      inputs := encode (.cfgWrite 0) :: tickInputs 1 ++ encode (.dbUpdate 1) :: tickInputs 0 ++ encode .fsmStep
        :: tickInputs 2 ++ encode .aspectSync :: tickInputs 0 ++ encode (.statusRead .status) :: [] }
    HolderMatches s ∧ s.inputs = encode (.cfgWrite 0) :: tickInputs 1 ++ encode (.dbUpdate 1) :: tickInputs 0
      ++ encode .fsmStep :: tickInputs 2 ++ encode .aspectSync :: tickInputs 0
      ++ encode (.statusRead .status) :: [] := ⟨by decide, rfl⟩

end Sys2Proof.Tests
end

/-! # Encoding: the opcode that stands for TICK, and the words that are illegal (30_encoding R110, R111, R113) -/

namespace Sys2Proof.Encoding

open Sys2Proof.Machine

/-! ## The decoder as a choice of rows (R108, R115) -/

theorem allowed_eq_some_iff (i j : Instr) : allowed i = some j ↔ i.wf = true ∧ i = j := by
  simp [allowed]

/-- A row reads a word exactly when the port, the bit pattern and the field values agree (R108). -/
theorem rowDecode_eq_some_iff (row : OpRow) (p : Port) (cmd : CmdWord) (data : Word) (i : Instr) :
    row.decode p cmd data = some i ↔ (row.port = p ∧ row.fits cmd = true) ∧ row.read cmd data = some i := by
  simp [OpRow.decode]

theorem rowDecode_ne_none {row : OpRow} {p : Port} {cmd : CmdWord} {data : Word}
    (h : row.decode p cmd data ≠ none) : row.port = p ∧ row.fits cmd = true := by
  obtain ⟨i, hi⟩ := Option.ne_none_iff_exists'.mp h
  exact ((rowDecode_eq_some_iff ..).mp hi).1

/-- What decodes is what some row of the opcode map reads. -/
theorem exists_row_of_decode_eq_ok {p : Port} {cmd : CmdWord} {data : Word} {i : Instr}
    (h : decode p cmd data = .ok i) : ∃ row ∈ opcodeTable, row.decode p cmd data = some i := by
  unfold decode at h
  split at h
  · rename_i j hj
    cases h
    exact List.exists_of_findSome?_eq_some hj
  · cases h

/-- A word is illegal exactly when no row of the opcode map reads it. -/
theorem decode_eq_error_iff (p : Port) (cmd : CmdWord) (data : Word) :
    (∃ why, decode p cmd data = .error why) ↔ ∀ row ∈ opcodeTable, row.decode p cmd data = none := by
  unfold decode
  rw [← List.findSome?_eq_none_iff]
  split <;> simp_all

/-- Where one row only can read a word, the decoder answers what that row reads. -/
theorem decode_eq_ok_of_only_row {p : Port} {cmd : CmdWord} {data : Word} {i : Instr} {row : OpRow}
    (hmem : row ∈ opcodeTable) (hread : row.decode p cmd data = some i)
    (honly : ∀ row' ∈ opcodeTable, row'.decode p cmd data ≠ none → row' = row) :
    decode p cmd data = .ok i := by
  cases hd : decode p cmd data with
  | error why => simp [(decode_eq_error_iff ..).mp ⟨why, hd⟩ row hmem] at hread
  | ok j =>
    obtain ⟨row', hmem', hread'⟩ := exists_row_of_decode_eq_ok hd
    obtain rfl := honly row' hmem' (by simp [hread'])
    rw [hread] at hread'
    cases hread'
    rfl

/-! ## The opcode of a word (R101) -/

theorem fieldOp_toNat (cmd : CmdWord) : (fieldOp cmd).toNat = cmd.toNat / 0x1000 := by
  have := cmd.isLt
  simp only [fieldOp, BitVec.extractLsb'_toNat, Nat.shiftRight_eq_div_pow]
  omega

theorem fieldOp_and (a b : CmdWord) : fieldOp (a &&& b) = fieldOp a &&& fieldOp b :=
  BitVec.extractLsb'_and

/-- Every mask of the opcode map keeps the whole opcode (R108). -/
theorem fieldOp_mask : ∀ row ∈ opcodeTable, fieldOp row.mask = BitVec.allOnes 4 := by decide

/-- A word that fits a row has the opcode of the row's match. -/
theorem fieldOp_of_fits {row : OpRow} (hmem : row ∈ opcodeTable) {cmd : CmdWord} (h : row.fits cmd = true) :
    fieldOp cmd = fieldOp row.pattern := by
  have hfit : cmd &&& row.mask = row.pattern := by simpa [OpRow.fits] using h
  calc fieldOp cmd = fieldOp cmd &&& fieldOp row.mask := by rw [fieldOp_mask row hmem, BitVec.and_allOnes]
    _ = fieldOp row.pattern := by rw [← fieldOp_and, hfit]

/-- No row of the command port has the reserved opcode or TICK's. -/
theorem fieldOp_commandRow : ∀ row ∈ opcodeTable, row.port = .command →
    fieldOp row.pattern ≠ 0x3 ∧ fieldOp row.pattern ≠ 0xF := by decide

/-- On the command port every word of opcode 0x3 or 0xF is illegal (R110, R111). -/
theorem decode_command_of_fieldOp {cmd : CmdWord} (h : fieldOp cmd = 0x3 ∨ fieldOp cmd = 0xF) (data : Word) :
    ∃ why, decode .command cmd data = .error why := by
  refine (decode_eq_error_iff ..).mpr fun row hmem => ?_
  by_contra hread
  obtain ⟨hport, hfits⟩ := rowDecode_ne_none hread
  obtain ⟨h3, hF⟩ := fieldOp_commandRow row hmem hport
  rw [fieldOp_of_fits hmem hfits] at h
  exact h.elim h3 hF

theorem fieldOp_eq_three {cmd : CmdWord} (hlo : 0x3000 ≤ cmd.toNat) (hhi : cmd.toNat ≤ 0x3FFF) :
    fieldOp cmd = 0x3 := by
  apply BitVec.eq_of_toNat_eq
  rw [fieldOp_toNat, show (0x3 : BitVec 4).toNat = 3 from rfl]
  omega

theorem fieldOp_eq_fifteen {cmd : CmdWord} (hlo : 0xF000 ≤ cmd.toNat) : fieldOp cmd = 0xF := by
  have := cmd.isLt
  apply BitVec.eq_of_toNat_eq
  rw [fieldOp_toNat, show (0xF : BitVec 4).toNat = 15 from rfl]
  omega

/-! ## The port of an instruction (R108, R111) -/

/-- A row reads instructions of its own port only. -/
theorem port_of_read {row : OpRow} (hmem : row ∈ opcodeTable) {cmd : CmdWord} {data : Word} {i : Instr}
    (h : row.read cmd data = some i) : i.port = row.port := by
  simp only [opcodeTable, List.mem_cons, List.not_mem_nil, or_false] at hmem
  rcases hmem with rfl | rfl | rfl | rfl | rfl | rfl | rfl | rfl | rfl | rfl | rfl | rfl | rfl | rfl | rfl | rfl
  all_goals simp only [allowed_eq_some_iff, Option.map_eq_some_iff] at h
  -- TMR_READ's row is the one that asks for a timer's name and not for a well-formed instruction
  case inr.inr.inr.inl => obtain ⟨t, -, rfl⟩ := h; rfl
  all_goals obtain ⟨-, rfl⟩ := h; rfl

/-- What decodes on a port is an instruction of that port. -/
theorem port_of_decode_eq_ok {p : Port} {cmd : CmdWord} {data : Word} {i : Instr}
    (h : decode p cmd data = .ok i) : i.port = p := by
  obtain ⟨row, hmem, hrow⟩ := exists_row_of_decode_eq_ok h
  obtain ⟨⟨hport, -⟩, hread⟩ := (rowDecode_eq_some_iff ..).mp hrow
  rw [port_of_read hmem hread, hport]

theorem port_eq_tick_iff (i : Instr) : i.port = .tick ↔ i = .tick := by
  cases i <;> simp [Instr.port]

/-- The tick port has one row, and it fits the one word 0xF000. -/
theorem tickRow_mask : ∀ row ∈ opcodeTable, row.port = .tick →
    row.mask = BitVec.allOnes 16 ∧ row.pattern = 0xF000 := by decide

/-- On the tick port 0xF000 is TICK, and no other word decodes (R111). -/
theorem decode_tick_eq_ok_iff (w : CmdWord) (data : Word) (i : Instr) :
    decode .tick w data = .ok i ↔ w = 0xF000 ∧ i = .tick := by
  constructor
  · intro h
    obtain ⟨row, hmem, hrow⟩ := exists_row_of_decode_eq_ok h
    obtain ⟨⟨hport, hfits⟩, -⟩ := (rowDecode_eq_some_iff ..).mp hrow
    obtain ⟨hmask, hpattern⟩ := tickRow_mask row hmem hport
    have hfit : w &&& row.mask = row.pattern := by simpa [OpRow.fits] using hfits
    rw [hmask, hpattern, BitVec.and_allOnes] at hfit
    exact ⟨hfit, (port_eq_tick_iff i).mp (port_of_decode_eq_ok h)⟩
  · rintro ⟨rfl, rfl⟩
    rfl

/-! ## Field values (R109, R113) -/

/-- The words of R113: the pattern fits a row, and the field value is not allowed. -/
theorem decode_illegalFieldValue (data : Word) :
    ∀ cmd ∈ [(0x1300 : CmdWord), 0x7000, 0x7300, 0x9003, 0x9007, 0x9103, 0x9107],
      decode .command cmd data = .error .fieldValue := by
  simp only [List.forall_mem_cons]
  exact ⟨rfl, rfl, rfl, rfl, rfl, rfl, rfl, by simp⟩

/-- DWELL's is the only row of opcode 0x6. -/
theorem row_eq_dwell {row : OpRow} (hmem : row ∈ opcodeTable) (h : fieldOp row.pattern = 0x6) :
    row = opcodeTable[6] := by
  have only : ∀ j : Fin 16, fieldOp (opcodeTable[j]'j.isLt).pattern = 0x6 → j = 6 := by decide
  obtain ⟨j, hj, rfl⟩ := List.getElem_of_mem hmem
  cases only ⟨j, hj⟩ h
  rfl

/-- DWELL's row reads back both operands of DWELL's word, with any class (R113, R117). -/
theorem dwellRow_decode (k : Byte) (r : Bool) (data : Word) :
    opcodeTable[6].decode .command (Instr.dwell k r).word data = some (.dwell k r) := by
  have hfits : ∀ k r, opcodeTable[6].fits (Instr.dwell k r).word = true := by decide
  have hclass : ∀ k r, fieldI (Instr.dwell k r).word = k := by decide
  have hmode : ∀ k r, fieldS0 (Instr.dwell k r).word = r := by decide
  refine (rowDecode_eq_some_iff ..).mpr ⟨⟨rfl, hfits k r⟩, ?_⟩
  show allowed (.dwell (fieldI _) (fieldS0 _)) = _
  rw [hclass, hmode]
  rfl

/-- No class makes DWELL illegal (R113). -/
theorem decode_dwell (k : Byte) (r : Bool) (data : Word) :
    decode .command (Instr.dwell k r).word data = .ok (.dwell k r) := by
  refine decode_eq_ok_of_only_row (List.getElem_mem _) (dwellRow_decode k r data) fun row hmem hread => ?_
  have hrow := fieldOp_of_fits hmem (rowDecode_ne_none hread).2
  have hdwell := fieldOp_of_fits (List.getElem_mem (by decide : 6 < opcodeTable.length))
    (rowDecode_ne_none (Option.ne_none_iff_exists'.mpr ⟨_, dwellRow_decode k r data⟩)).2
  exact row_eq_dwell hmem (hrow.symm.trans hdwell)

/-! ## Classes (R190, R192) -/

theorem clampClass_eq_last {k : Byte} {n : Nat} (h : n - 1 ≤ k.toNat) : clampClass k n = n - 1 :=
  Nat.min_eq_right h

/-- The dwell computation reads a class through its clamped index only. -/
theorem dwellSeconds_congr {P : Config.Params} {k k' : Byte}
    (h : clampClass k P.dwellClasses = clampClass k' P.dwellClasses) (r : Bool) (s : State) :
    dwellSeconds P k r s = dwellSeconds P k' r s := by
  simp only [dwellSeconds, h]

/-- A DWELL class above 7 acts as class 7 (R113). -/
theorem exec_dwell_of_seven_le {k : Byte} (h : 7 ≤ k.toNat) (r : Bool) (s : State) :
    exec (.dwell k r) s = exec (.dwell 7 r) s := by
  have hk : clampClass k Config.params.dwellClasses = clampClass 7 Config.params.dwellClasses :=
    clampClass_eq_last h
  show Host.Outcome.next (dwellCommand Config.params k r s) = .next (dwellCommand Config.params 7 r s)
  simp only [dwellCommand, dwellSeconds_congr hk]

/-! ## Command steps and time -/

/-- A step that takes an illegal command word raises IllegalCommand (R330). -/
theorem step_of_decode_eq_error {s : State} {cmd : CmdWord} {data : Word} {rest : List Input}
    (hq : s.inputs = .command cmd data :: rest) (h : ∃ why, decode .command cmd data = .error why) :
    step s = .next (raiseIllegal cmd (afterInput rest s)) := by
  obtain ⟨why, hwhy⟩ := h
  simp [step, hq, takeInput, takeCommand, hwhy]

/-- The registers that hold the time, `ms`, `slice` and `frame`, have the same values in two states (R111, R142). -/
def SameTime (s t : State) : Prop := t.ms = s.ms ∧ t.slice = s.slice ∧ t.frame = s.frame

theorem lockAcquire_sameTime (d : Approach) (s : State) : SameTime s (lockAcquire d s).2 := by
  obtain ⟨-, -, h⟩ | ⟨-, h⟩ := lockAcquire_cases d s <;> rw [h] <;> exact ⟨rfl, rfl, rfl⟩

theorem dwellSeconds_sameTime (P : Config.Params) (k : Byte) (r : Bool) (s : State) :
    SameTime s (dwellSeconds P k r s).2 := by
  rw [dwellSeconds_state]
  cases r <;> exact ⟨rfl, rfl, rfl⟩

theorem offerSample_sameTime (P : Config.Params) (raw : Byte) (s : State) : SameTime s (offerSample P raw s) := by
  obtain ⟨-, h⟩ | ⟨-, h⟩ := offerSample_cases P raw s <;> rw [h] <;> exact ⟨rfl, rfl, rfl⟩

theorem pickApproach_sameTime (P : Config.Params) (d : Approach) (s : State) :
    SameTime s (pickApproach P d s) := by
  rw [pickApproach_eq]
  exact ⟨rfl, rfl, rfl⟩

theorem fsmTransition_sameTime {P : Config.Params} {s t : State} (h : fsmTransition P s = .ok t) : SameTime s t := by
  rcases fsmTransition_cases P s t h with
    rfl | ⟨-, -, d, -, rfl⟩ | ⟨-, -, rfl⟩ | ⟨-, -, -, d, -, rfl⟩ | ⟨-, -, rfl⟩ | ⟨-, -, d, -, -, rfl⟩
      | ⟨-, -, d, -, -, rfl⟩ | ⟨-, -, -, -, rfl⟩ | ⟨-, -, rfl⟩ | ⟨-, -, -, rfl⟩ | ⟨-, -, rfl⟩ | ⟨-, -, -, rfl⟩
      | ⟨-, rfl⟩
  case inr.inl => exact pickApproach_sameTime P d s
  all_goals exact ⟨rfl, rfl, rfl⟩

/-- No instruction of the command port advances the time. -/
theorem exec_sameTime {i : Instr} (hport : i.port = .command) {s t : State} (h : exec i s = .next t) :
    SameTime s t := by
  cases i with
  | tick => cases hport
  | tmrArm sel value =>
    simp only [exec, execTmrArm] at h
    split at h <;> cases h <;> exact ⟨rfl, rfl, rfl⟩
  | lockReq d =>
    simp only [exec, execLockReq] at h
    split at h <;> cases h
    · exact lockAcquire_sameTime _ s
    · exact ⟨rfl, rfl, rfl⟩
  | aspectSet hd aspect flash =>
    simp only [exec, execAspectSet] at h
    split at h <;> cases h <;> exact ⟨rfl, rfl, rfl⟩
  | fsmStep =>
    simp only [exec, execFsmStep, fsmCommand] at h
    split at h <;> cases h
    rename_i s' hs'
    exact (fsmTransition_sameTime hs' : SameTime s s')
  | dbUpdate raw => cases h; exact offerSample_sameTime _ raw s
  | dwell cls r => cases h; exact dwellSeconds_sameTime _ cls r s
  | nop | tmrRead _ | msRead | dbRead | lockClr | cfgWrite _ | aspectSync | statusRead _ | pwmRead _ =>
    cases h; exact ⟨rfl, rfl, rfl⟩

/-- No step that takes a command word advances the time, whether the word is legal or not (R111). -/
theorem step_command_sameTime {s t : State} {cmd : CmdWord} {data : Word} {rest : List Input}
    (hq : s.inputs = .command cmd data :: rest) (h : step s = .next t) : SameTime s t := by
  obtain ⟨hnil, -⟩ | ⟨_, hreset, -⟩ | ⟨e, rest', i, he, hi, hexec⟩ | ⟨_, _, _, _, -, -, rfl⟩ := step_cases s t h
  · simp [hq] at hnil
  · simp [hq] at hreset
  · obtain ⟨rfl, rfl⟩ := List.cons.inj (hq.symm.trans he)
    have hport : i.port = .command := port_of_decode_eq_ok (Option.some.inj hi)
    exact (exec_sameTime hport hexec : SameTime (afterInput rest s) t)
  · exact ⟨rfl, rfl, rfl⟩

/-! ## The obligations -/

/-- Settles O5: the tick port's only row is TICK's, no command row has opcode 0xF, and every instruction that the
command port decodes, and IllegalCommand too, leaves the time. -/
theorem onlyTheTickPortAdvancesTime : Obligations.OnlyTheTickPortAdvancesTime := by
  refine ⟨fun w i => decode_tick_eq_ok_iff w 0 i, fun s cmd data rest hlo hq => ?_, fun s t cmd data rest hq h => ?_⟩
  · exact step_of_decode_eq_error hq (decode_command_of_fieldOp (.inr (fieldOp_eq_fifteen hlo)) data)
  · exact step_command_sameTime hq h

/-- Settles O6: no command row has opcode 0x3, the words of R113 fit rows that do not allow their field values, and a
class is read through its clamped index only. -/
theorem illegalWordsRaise : Obligations.IllegalWordsRaise := by
  refine ⟨fun s cmd data rest hcmd hq => step_of_decode_eq_error hq ?_, fun _ => rfl, fun _ => rfl, decode_dwell,
    fun s k r hk => exec_dwell_of_seven_le hk r s⟩
  obtain ⟨hlo, hhi⟩ | hmem := hcmd
  · exact decode_command_of_fieldOp (.inl (fieldOp_eq_three hlo hhi)) data
  · exact ⟨_, decode_illegalFieldValue data cmd hmem⟩

end Sys2Proof.Encoding

/-! # The timebase and the timers (40_timebase_timers): what one TICK counts, and a timer's count along a run. -/

namespace Sys2Proof.Timebase

open Sys2Proof.Machine

/-! ## One TICK (R141) -/

/-- TICK completes in every state, and its writes are `tickBlock`'s (R141). -/
theorem exec_tick (s : State) : exec .tick s = .next (tickBlock Config.params s) := rfl

/-- Where 0xF000 stands next on the tick port, the step is a TICK of the state whose schedule has lost that word. -/
theorem step_of_ticksNext {s : State} (h : ticksNext s = true) :
    ∃ rest, step s = .next (tickBlock Config.params (afterInput rest s)) := by
  have hhead : s.inputs.head? = some (.tickPort 0xF000) := by simpa [ticksNext] using h
  obtain ⟨rest, hq⟩ := List.head?_eq_some_iff.mp hhead
  have hdec : decode .tick 0xF000 0 = .ok .tick := (Encoding.decode_tick_eq_ok_iff ..).mpr ⟨rfl, rfl⟩
  exact ⟨rest, by simp only [step, hq, takeInput, takeTickWord, hdec, exec_tick]⟩

/-! ## A timer along a run (R143, R147, R148) -/

/-- A TICK step takes one from a timer, down to 0 (R143). -/
theorem readTimer_of_step_tick {s t : State} (htick : ticksNext s = true) (h : step s = .next t) (u : Timer) :
    (readTimer t.tmr u).toNat = (readTimer s.tmr u).toNat - 1 := by
  obtain ⟨rest, hstep⟩ := step_of_ticksNext htick
  cases hstep.symm.trans h
  rw [tickBlock_tmr, afterInput_tmr, readTimer_tickTimers, countDown_toNat]

/-- One more step adds one to the count of TICK steps exactly when it is a TICK. -/
theorem ticksIn_succ (st : Nat → State) (n : Nat) :
    ticksIn st (n + 1) = ticksIn st n + if ticksNext (st n) then 1 else 0 := by
  simp [ticksIn, List.range_succ, List.countP_singleton]

/-- A timer that only TICK changes has lost one for each TICK step of the run so far, down to 0 (R148). -/
theorem readTimer_after_ticks {st : Nat → State} {u : Timer} (n : Nat)
    (hrun : ∀ k < n, step (st k) = .next (st (k + 1))
      ∧ (ticksNext (st k) = false → readTimer (st (k + 1)).tmr u = readTimer (st k).tmr u)) :
    (readTimer (st n).tmr u).toNat = (readTimer (st 0).tmr u).toNat - ticksIn st n := by
  induction n with
  | zero => rfl
  | succ n ih =>
    have hprev := ih fun k hk => hrun k (Nat.lt_succ_of_lt hk)
    obtain ⟨hstep, hkeep⟩ := hrun n (Nat.lt_succ_self n)
    rw [ticksIn_succ]
    cases htick : ticksNext (st n) with
    | false => rw [hkeep htick, hprev]; rfl
    | true => rw [readTimer_of_step_tick htick hstep, hprev, Nat.sub_sub]; rfl

/-- A timer has expired exactly when its count is 0 (R147). -/
theorem expired_eq_decide (s : State) (u : Timer) : expired s u = decide ((readTimer s.tmr u).toNat = 0) := by
  rw [Bool.eq_iff_iff]
  simp [expired, ← BitVec.toNat_inj]

/-! ## The obligations -/

/-- Settles O17, by induction on the length of the run: a TICK step takes one from the timer, any other keeps it; the
timer has expired when the subtraction reaches 0. -/
theorem timerAfterTicks : Obligations.TimerAfterTicks := by
  intro st n u hrun
  have hcount := readTimer_after_ticks n hrun
  refine ⟨hcount, ?_⟩
  simp only [expired_eq_decide, hcount, Nat.sub_eq_zero_iff_le]

/-- Settles O14: `ms` advances in 32-bit arithmetic, each timer by `countDown`, and `tickBlock` writes no field beyond
those named. -/
theorem tickCountsTimeAndTimers : Obligations.TickCountsTimeAndTimers := by
  intro s
  refine ⟨tickBlock Config.params s, exec_tick s, ?ms, fun u => ?timer, rfl⟩
  case ms => rw [tickBlock_ms, BitVec.toNat_add]; rfl
  case timer => rw [tickBlock_tmr, readTimer_tickTimers, countDown]

end Sys2Proof.Timebase

/-! # The debounce filter (41_debounce): a lane after an update is a function of its own registers, its raw bit and the
throttle decision. -/

namespace Sys2Proof.Debounce

open Sys2Proof.Machine

/-- DB_UPDATE completes in every state, with the offered sample's writes and response 0 (R171). -/
theorem exec_dbUpdate (raw : Byte) (s : State) :
    exec (.dbUpdate raw) s = .next (respond 0 (offerSample Config.params raw s)) := rfl

/-- The sample enters a history at bit 0 (R171). -/
theorem shiftIn_eq_or (hist : Byte) (sample : Bool) :
    shiftIn hist sample = (hist <<< 1) ||| (if sample then 1 else 0) := by
  cases sample <;> rfl

/-! ## One lane of an offered sample (R172) -/

/-- The throttle decision reads `ms` and `db_last` only. -/
theorem updateDue_congr (P : Config.Params) {s₁ s₂ : State} (hms : s₁.ms = s₂.ms) (hlast : s₁.dbLast = s₂.dbLast) :
    updateDue P s₁ = updateDue P s₂ := by
  simp only [updateDue, hms, hlast]

theorem offerSample_dbHist (P : Config.Params) (raw : Byte) (s : State) (b : Fin 8) :
    (offerSample P raw s).dbHist[b]
      = if updateDue P s then shiftIn s.dbHist[b] (raw.getLsbD b) else s.dbHist[b] := by
  unfold offerSample
  split
  · exact acceptSample_dbHist raw s b
  · rfl

theorem offerSample_dbStable (P : Config.Params) (raw : Byte) (s : State) (b : Fin 8) :
    (offerSample P raw s).dbStable.getLsbD b
      = if updateDue P s then stableAfter (shiftIn s.dbHist[b] (raw.getLsbD b)) (s.dbStable.getLsbD b)
        else s.dbStable.getLsbD b := by
  unfold offerSample
  split
  · exact acceptSample_dbStable raw s b
  · rfl

/-- A lane after an offered sample depends on the throttle's registers, the lane's own and its raw bit only. -/
theorem offerSample_lane_congr (P : Config.Params) {s₁ s₂ : State} {raw₁ raw₂ : Byte} {b : Fin 8}
    (hms : s₁.ms = s₂.ms) (hlast : s₁.dbLast = s₂.dbLast) (hhist : s₁.dbHist[b] = s₂.dbHist[b])
    (hstable : s₁.dbStable.getLsbD b = s₂.dbStable.getLsbD b) (hraw : raw₁.getLsbD b = raw₂.getLsbD b) :
    (offerSample P raw₁ s₁).dbHist[b] = (offerSample P raw₂ s₂).dbHist[b]
      ∧ (offerSample P raw₁ s₁).dbStable.getLsbD b = (offerSample P raw₂ s₂).dbStable.getLsbD b := by
  have hdue := updateDue_congr P hms hlast
  constructor
  · rw [offerSample_dbHist, offerSample_dbHist, hdue, hhist, hraw]
  · rw [offerSample_dbStable, offerSample_dbStable, hdue, hhist, hstable, hraw]

/-- The lanes share the throttle decision: an offered sample shifts every history or leaves every lane. -/
theorem offerSample_all_or_none (P : Config.Params) (raw : Byte) (s : State) :
    (∀ b : Fin 8, (offerSample P raw s).dbHist[b] = shiftIn s.dbHist[b] (raw.getLsbD b))
      ∨ ((offerSample P raw s).dbHist = s.dbHist ∧ (offerSample P raw s).dbStable = s.dbStable) := by
  obtain ⟨-, h⟩ | ⟨-, h⟩ := offerSample_cases P raw s <;> rw [h]
  · exact .inl (acceptSample_dbHist raw s)
  · exact .inr ⟨rfl, rfl⟩

/-! ## The obligations -/

/-- Settles O20: DB_UPDATE's lanes are those of the offered sample; each is a function of its own registers and raw bit
under one throttle decision for all. -/
theorem laneIndependence : Obligations.LaneIndependence := by
  constructor
  · intro s₁ s₂ t₁ t₂ raw₁ raw₂ b hms hlast hhist hstable hraw h₁ h₂
    cases (exec_dbUpdate raw₁ s₁).symm.trans h₁
    cases (exec_dbUpdate raw₂ s₂).symm.trans h₂
    exact offerSample_lane_congr Config.params hms hlast hhist hstable hraw
  · intro s t raw h
    cases (exec_dbUpdate raw s).symm.trans h
    simp only [← shiftIn_eq_or]
    exact offerSample_all_or_none Config.params raw s

end Sys2Proof.Debounce

/-! # The dwell generator (42_dwell): a random result lies in its clamped class's set, and the source is seeded at its first
draw only. -/

namespace Sys2Proof.Dwell

open Sys2Proof.Machine

/-! ## DWELL and FSM_STEP (R195, R277) -/

/-- DWELL completes in every state, and responds with the computed seconds (R195). -/
theorem exec_dwell (k : Byte) (r : Bool) (s : State) :
    exec (.dwell k r) s
      = .next (respond (BitVec.ofNat 32 (dwellSeconds Config.params k r s).1) (dwellSeconds Config.params k r s).2) := rfl

/-- FSM_STEP completes exactly where a transition exists, with its writes and response 0 (R277). -/
theorem exec_fsmStep_eq_next_iff (s t : State) :
    exec .fsmStep s = .next t ↔ ∃ u, fsmTransition Config.params s = .ok u ∧ t = respond 0 u := by
  show fsmCommand Config.params s = .next t ↔ _
  unfold fsmCommand
  cases fsmTransition Config.params s with
  | error f => simp
  | ok u => simp [eq_comm]

/-- IDLE with an approach occupied and the lockout timer at 0 picks an approach (R266). -/
theorem fsmTransition_picks {P : Config.Params} {s : State} (hidle : s.fsmState = .idle)
    (hlockout : s.tmr.lockout = 0) (hocc : occ s .a = true ∨ occ s .b = true) :
    ∃ d, fsmTransition P s = .ok (pickApproach P d s) := by
  have hexp : expired s .lockout = true := beq_iff_eq.mpr hlockout
  simp only [fsmTransition, hidle, fromIdle, hexp, Bool.and_true]
  cases ha : occ s .a with
  | true => exact ⟨.a, rfl⟩
  | false =>
    have hb : occ s .b = true := hocc.resolve_left (by simp [ha])
    exact ⟨.b, by simp [hb]⟩

/-! ## The random result (R191, R192, R198) -/

theorem mem_dwellChoices (P : Config.Params) (row : Config.DwellRow) (n : Nat) :
    n ∈ dwellChoices P row ↔ (row.skew = .bimodal ∧ n = P.dwellNominalS) ∨ (row.minS ≤ n ∧ n ≤ row.maxS) := by
  unfold dwellChoices
  cases row.skew <;> simp [mem_secondsRange]

/-- The seconds a class may draw, by the table of R191; an index above 7 acts as class 7 (R190). -/
def InClassSet (k : Byte) (secs : Nat) : Prop :=
  (k = 0 → secs = 0) ∧ (k = 1 → 1 ≤ secs ∧ secs ≤ 5) ∧ (k = 2 → 5 ≤ secs ∧ secs ≤ 10)
    ∧ (k = 3 → 10 ≤ secs ∧ secs ≤ 20)
    ∧ (4 ≤ k.toNat ∧ k.toNat ≤ 6 → secs = 1 ∨ (15 ≤ secs ∧ secs ≤ 30))
    ∧ (7 ≤ k.toNat → 30 ≤ secs ∧ secs ≤ 60)

/-- A random result is in the set of the row that the clamped class selects. -/
theorem dwellSeconds_random_of_row {k : Byte} {row : Config.DwellRow} (s : State)
    (hrow : Config.dwellTable[min k.toNat 7]? = some row) :
    (row.skew = .bimodal ∧ (dwellSeconds Config.params k true s).1 = 1)
      ∨ (row.minS ≤ (dwellSeconds Config.params k true s).1 ∧ (dwellSeconds Config.params k true s).1 ≤ row.maxS) := by
  obtain ⟨row', -, hrow', hmem⟩ := dwellSeconds_random_mem Config.params k s params_wf
  obtain rfl : row' = row := Option.some.inj (hrow'.symm.trans hrow)
  exact (mem_dwellChoices ..).mp hmem

/-- No random result exceeds 60 seconds (R192). -/
theorem dwellSeconds_random_le (k : Byte) (s : State) : (dwellSeconds Config.params k true s).1 ≤ 60 := by
  have hmax : ∀ row ∈ Config.dwellTable, row.maxS ≤ 60 := by decide
  obtain ⟨row, hmem, -, hsecs⟩ := dwellSeconds_random_mem Config.params k s params_wf
  obtain ⟨-, hnominal⟩ | ⟨-, hrange⟩ := (mem_dwellChoices ..).mp hsecs
  · rw [hnominal]; decide
  · exact hrange.trans (hmax row hmem)

/-- Every random result lies in its class's set, whatever the random source gives (R198). -/
theorem dwellSeconds_random_inClassSet (k : Byte) (s : State) :
    InClassSet k (dwellSeconds Config.params k true s).1 := by
  refine ⟨?zero, ?one, ?two, ?three, ?bimodal, ?seven⟩
  case zero => rintro rfl; simpa using dwellSeconds_random_of_row (k := 0) s rfl
  case one => rintro rfl; simpa using dwellSeconds_random_of_row (k := 1) s rfl
  case two => rintro rfl; simpa using dwellSeconds_random_of_row (k := 2) s rfl
  case three => rintro rfl; simpa using dwellSeconds_random_of_row (k := 3) s rfl
  case bimodal =>
    rintro ⟨hlo, hhi⟩
    have hrow : Config.dwellTable[min k.toNat 7]? = some ⟨15, 30, .bimodal⟩ := by
      obtain h | h | h : k.toNat = 4 ∨ k.toNat = 5 ∨ k.toNat = 6 := by omega
      all_goals rw [h]; rfl
    simpa using dwellSeconds_random_of_row s hrow
  case seven =>
    intro h
    have hrow : Config.dwellTable[min k.toNat 7]? = some ⟨30, 60, .none⟩ := by rw [min_eq_right h]; rfl
    simpa using dwellSeconds_random_of_row s hrow

/-! ## The seed (R194) -/

/-- The seed and its flag, the registers of R37 and R38, have the same values in two states. -/
def SameSeed (s t : State) : Prop := t.rngSeeded = s.rngSeeded ∧ t.rngSeed = s.rngSeed

/-- The first randomized computation sets the flag and captures `ms`. -/
theorem dwellSeconds_seeds (P : Config.Params) (k : Byte) {s : State} (h : s.rngSeeded = false) :
    (dwellSeconds P k true s).2.rngSeeded = true ∧ (dwellSeconds P k true s).2.rngSeed = s.ms := by
  rw [dwellSeconds_state]
  simp [h]

/-- A deterministic computation leaves the seed, and so does one of a seeded source. -/
theorem dwellSeconds_sameSeed (P : Config.Params) (k : Byte) {r : Bool} {s : State}
    (h : r = false ∨ s.rngSeeded = true) : SameSeed s (dwellSeconds P k r s).2 := by
  rw [dwellSeconds_state]
  cases r with
  | false => exact ⟨rfl, rfl⟩
  | true => simp [SameSeed, h.resolve_left]

theorem pickApproach_seeds (P : Config.Params) (d : Approach) {s : State} (hrandom : s.cfg.randomized = true)
    (h : s.rngSeeded = false) : (pickApproach P d s).rngSeeded = true ∧ (pickApproach P d s).rngSeed = s.ms := by
  rw [pickApproach_eq, hrandom]
  exact dwellSeconds_seeds P s.cfg.dwellClass h

theorem pickApproach_sameSeed (P : Config.Params) (d : Approach) {s : State}
    (h : s.cfg.randomized = false ∨ s.rngSeeded = true) : SameSeed s (pickApproach P d s) := by
  rw [pickApproach_eq]
  exact dwellSeconds_sameSeed P s.cfg.dwellClass h

/-- Of the transitions only a pick computes a dwell. -/
theorem fsmTransition_sameSeed {P : Config.Params} {s t : State} (hseed : s.cfg.randomized = false ∨ s.rngSeeded = true)
    (h : fsmTransition P s = .ok t) : SameSeed s t := by
  rcases fsmTransition_cases P s t h with
    rfl | ⟨-, -, d, -, rfl⟩ | ⟨-, -, rfl⟩ | ⟨-, -, -, d, -, rfl⟩ | ⟨-, -, rfl⟩ | ⟨-, -, d, -, -, rfl⟩
      | ⟨-, -, d, -, -, rfl⟩ | ⟨-, -, -, -, rfl⟩ | ⟨-, -, rfl⟩ | ⟨-, -, -, rfl⟩ | ⟨-, -, rfl⟩ | ⟨-, -, -, rfl⟩
      | ⟨-, rfl⟩
  case inr.inl => exact pickApproach_sameSeed P d hseed
  all_goals exact ⟨rfl, rfl⟩

theorem exec_fsmStep_sameSeed {s t : State} (hseed : s.cfg.randomized = false ∨ s.rngSeeded = true)
    (h : exec .fsmStep s = .next t) : SameSeed s t := by
  obtain ⟨u, hu, rfl⟩ := (exec_fsmStep_eq_next_iff s t).mp h
  exact (fsmTransition_sameSeed hseed hu : SameSeed s u)

theorem lockAcquire_sameSeed (d : Approach) (s : State) : SameSeed s (lockAcquire d s).2 := by
  obtain ⟨-, -, h⟩ | ⟨-, h⟩ := lockAcquire_cases d s <;> rw [h] <;> exact ⟨rfl, rfl⟩

theorem offerSample_sameSeed (P : Config.Params) (raw : Byte) (s : State) : SameSeed s (offerSample P raw s) := by
  obtain ⟨-, h⟩ | ⟨-, h⟩ := offerSample_cases P raw s <;> rw [h] <;> exact ⟨rfl, rfl⟩

/-- No instruction but DWELL and FSM_STEP writes the seed or its flag (R30). -/
theorem exec_sameSeed {i : Instr} (hdwell : ∀ k r, i ≠ .dwell k r) (hfsm : i ≠ .fsmStep) {s t : State}
    (h : exec i s = .next t) : SameSeed s t := by
  cases i with
  | dwell k r => exact absurd rfl (hdwell k r)
  | fsmStep => exact absurd rfl hfsm
  | tmrArm sel value =>
    simp only [exec, execTmrArm] at h
    split at h <;> cases h <;> exact ⟨rfl, rfl⟩
  | lockReq d =>
    simp only [exec, execLockReq] at h
    split at h <;> cases h
    · exact lockAcquire_sameSeed _ s
    · exact ⟨rfl, rfl⟩
  | aspectSet hd aspect flash =>
    simp only [exec, execAspectSet] at h
    split at h <;> cases h <;> exact ⟨rfl, rfl⟩
  | dbUpdate raw => cases h; exact offerSample_sameSeed _ raw s
  | nop | tmrRead _ | msRead | dbRead | lockClr | cfgWrite _ | aspectSync | statusRead _ | pwmRead _ | tick =>
    cases h; exact ⟨rfl, rfl⟩

/-- No instruction reseeds a seeded source. -/
theorem exec_sameSeed_of_seeded {i : Instr} {s t : State} (hs : s.rngSeeded = true) (h : exec i s = .next t) :
    SameSeed s t := by
  by_cases hfsm : i = .fsmStep
  · subst hfsm; exact exec_fsmStep_sameSeed (.inr hs) h
  · by_cases hdwell : ∃ k r, i = .dwell k r
    · obtain ⟨k, r, rfl⟩ := hdwell
      cases (exec_dwell k r s).symm.trans h
      exact (dwellSeconds_sameSeed Config.params k (.inr hs) : SameSeed s (dwellSeconds Config.params k r s).2)
    · exact exec_sameSeed (fun k r hi => hdwell ⟨k, r, hi⟩) hfsm h

/-- No step but RESET reseeds a seeded source; a step that takes an illegal word does not either. -/
theorem step_sameSeed_of_seeded {s t : State} (hs : s.rngSeeded = true) (hreset : s.inputs.head? ≠ some .reset)
    (h : step s = .next t) : SameSeed s t := by
  obtain ⟨-, rfl⟩ | ⟨rest, hq, -⟩ | ⟨_, rest, i, -, -, hexec⟩ | ⟨_, _, rest, _, -, -, rfl⟩ := step_cases s t h
  · exact ⟨rfl, rfl⟩
  · simp [hq] at hreset
  · exact (exec_sameSeed_of_seeded (s := afterInput rest s) hs hexec : SameSeed (afterInput rest s) t)
  · exact ⟨rfl, rfl⟩

/-! ## The obligations -/

/-- Settles O24: the draw is an element of the clamped class's set, and at most 60, so the response word holds it whole. -/
theorem dwellRandomInRange : Obligations.DwellRandomInRange := by
  intro s k
  have hfit : (BitVec.ofNat 32 (dwellSeconds Config.params k true s).1).toNat
      = (dwellSeconds Config.params k true s).1 := by
    have := dwellSeconds_random_le k s
    rw [BitVec.toNat_ofNat]
    omega
  obtain ⟨hzero, hrest⟩ := dwellSeconds_random_inClassSet k s
  refine ⟨BitVec.ofNat 32 (dwellSeconds Config.params k true s).1, s.drawCount + 1, ?writes, ?zero, ?ranges⟩
  case writes => rw [exec_dwell, dwellSeconds_state]; rfl
  case zero => intro hk; rw [hzero hk]; rfl
  case ranges => rw [hfit]; exact hrest

/-- Settles O25: DWELL and the pick in IDLE seed an unseeded source only in the random mode, and every step but RESET
leaves a seeded one. -/
theorem seededOnce : Obligations.SeededOnce := by
  refine ⟨?seeded, ?dwell, ?fixedDwell, ?pick, ?fixedPick⟩
  case seeded =>
    intro s t hs hreset h
    obtain ⟨hflag, hseed⟩ := step_sameSeed_of_seeded hs hreset h
    exact ⟨hflag.trans hs, hseed⟩
  case dwell => intro s k hs; exact ⟨_, exec_dwell k true s, dwellSeconds_seeds Config.params k hs⟩
  case fixedDwell => intro s k; exact ⟨_, exec_dwell k false s, dwellSeconds_sameSeed Config.params k (.inl rfl)⟩
  case pick =>
    intro s hidle hrandom hs hlockout hocc
    obtain ⟨d, hd⟩ := fsmTransition_picks (P := Config.params) hidle hlockout hocc
    exact ⟨_, (exec_fsmStep_eq_next_iff s _).mpr ⟨_, hd, rfl⟩, pickApproach_seeds Config.params d hrandom hs⟩
  case fixedPick => intro s t hfixed h; exact exec_fsmStep_sameSeed (.inl hfixed) h

/-- Settles O23: the fixed mode responds with the clamped class times the step, in the state it found. -/
theorem dwellFixedIsDeterministic : Obligations.DwellFixedIsDeterministic := by
  intro s k
  refine ⟨BitVec.ofNat 32 (min k.toNat 7 * 5), ?writes, ?value⟩
  case writes => rw [exec_dwell, dwellSeconds_fixed]; rfl
  case value => rw [BitVec.toNat_ofNat]; omega

end Sys2Proof.Dwell

/-! # The aspect driver (43_aspect_driver): who writes its registers, what a TICK drives, and how long a fade takes. -/

namespace Sys2Proof.AspectDriver

open Sys2Proof.Machine

/-! ## Ownership (R228) -/

/-- The driver's registers that only TICK writes: those of R45 to R50 (R226, R228). -/
structure Live where
  level : PerHead (PerChannel Level)
  target : PerHead (PerChannel Level)
  slice : Level
  frame : Level
  flashPhase : Bool
  line : PerHead (PerChannel Bool)

/-- The live registers of a state. -/
def live (s : State) : Live := ⟨s.level, s.target, s.slice, s.frame, s.flashPhase, s.line⟩

theorem live_eq_iff (s t : State) : live t = live s ↔
    t.level = s.level ∧ t.target = s.target ∧ t.slice = s.slice ∧ t.frame = s.frame ∧ t.flashPhase = s.flashPhase
      ∧ t.line = s.line := by
  simp only [live, Live.mk.injEq]

/-- The live registers and the two that the host gives the driver have the same values in two states. -/
def SameDriver (s t : State) : Prop := live t = live s ∧ t.aspectReg = s.aspectReg ∧ t.cfg = s.cfg

/-- An instruction that does not own a driver register by R228 keeps its value. -/
def KeepsUnowned (i : Instr) (s t : State) : Prop :=
  (i ≠ .tick → live t = live s)
    ∧ ((∀ h a f, i ≠ .aspectSet h a f) → i ≠ .aspectSync → t.aspectReg = s.aspectReg)
    ∧ ((∀ d, i ≠ .cfgWrite d) → t.cfg = s.cfg)

theorem SameDriver.keepsUnowned {s t : State} (h : SameDriver s t) (i : Instr) : KeepsUnowned i s t := by
  obtain ⟨hlive, haspect, hcfg⟩ := h
  exact ⟨fun _ => hlive, fun _ _ => haspect, fun _ => hcfg⟩

/-- The registers a transition may write: the state machine's own, the lock's, the timers and the random source's. -/
theorem fsmTransition_frame {P : Config.Params} {s t : State} (h : fsmTransition P s = .ok t) :
    t = { s with
      fsmState := t.fsmState, holder := t.holder, locked := t.locked, lockHolder := t.lockHolder, tmr := t.tmr
      rngSeeded := t.rngSeeded, rngSeed := t.rngSeed, drawCount := t.drawCount } := by
  rcases fsmTransition_cases P s t h with
    rfl | ⟨-, -, d, -, rfl⟩ | ⟨-, -, rfl⟩ | ⟨-, -, -, d, -, rfl⟩ | ⟨-, -, rfl⟩ | ⟨-, -, d, -, -, rfl⟩
      | ⟨-, -, d, -, -, rfl⟩ | ⟨-, -, -, -, rfl⟩ | ⟨-, -, rfl⟩ | ⟨-, -, -, rfl⟩ | ⟨-, -, rfl⟩ | ⟨-, -, -, rfl⟩
      | ⟨-, rfl⟩
  case inr.inl => simp only [pickApproach_eq]
  all_goals rfl

theorem fsmTransition_sameDriver {P : Config.Params} {s t : State} (h : fsmTransition P s = .ok t) :
    SameDriver s t := by
  rw [fsmTransition_frame h]
  exact ⟨rfl, rfl, rfl⟩

theorem lockAcquire_sameDriver (d : Approach) (s : State) : SameDriver s (lockAcquire d s).2 := by
  obtain ⟨-, -, h⟩ | ⟨-, h⟩ := lockAcquire_cases d s <;> rw [h] <;> exact ⟨rfl, rfl, rfl⟩

theorem dwellSeconds_sameDriver (P : Config.Params) (k : Byte) (r : Bool) (s : State) :
    SameDriver s (dwellSeconds P k r s).2 := by
  rw [dwellSeconds_state]
  cases r <;> exact ⟨rfl, rfl, rfl⟩

theorem offerSample_sameDriver (P : Config.Params) (raw : Byte) (s : State) :
    SameDriver s (offerSample P raw s) := by
  obtain ⟨-, h⟩ | ⟨-, h⟩ := offerSample_cases P raw s <;> rw [h] <;> exact ⟨rfl, rfl, rfl⟩

/-- A response writes no register of the driver. -/
theorem SameDriver.respond_right {s t : State} (h : SameDriver s t) (v : Word) : SameDriver s (respond v t) := h

theorem raiseIllegal_sameDriver (cmd : CmdWord) (s : State) : SameDriver s (raiseIllegal cmd s) := ⟨rfl, rfl, rfl⟩

/-- Every instruction keeps the driver registers it does not own, ill-formed operands included. -/
theorem exec_keepsUnowned {i : Instr} {s t : State} (h : exec i s = .next t) : KeepsUnowned i s t := by
  cases i with
  | tick => cases h; exact ⟨fun hne => absurd rfl hne, fun _ _ => rfl, fun _ => rfl⟩
  | cfgWrite d => cases h; exact ⟨fun _ => rfl, fun _ _ => rfl, fun hne => absurd rfl (hne d)⟩
  | aspectSync => cases h; exact ⟨fun _ => rfl, fun _ hne => absurd rfl hne, fun _ => rfl⟩
  | aspectSet hd aspect flash =>
    simp only [exec, execAspectSet] at h
    split at h <;> cases h
    · exact ⟨fun _ => rfl, fun hne _ => absurd rfl (hne hd aspect flash), fun _ => rfl⟩
    · exact (raiseIllegal_sameDriver _ s).keepsUnowned _
  | tmrArm sel value =>
    simp only [exec, execTmrArm] at h
    split at h <;> cases h <;> exact SameDriver.keepsUnowned ⟨rfl, rfl, rfl⟩ _
  | lockReq d =>
    simp only [exec, execLockReq] at h
    split at h <;> cases h
    · exact ((lockAcquire_sameDriver _ s).respond_right _).keepsUnowned _
    · exact (raiseIllegal_sameDriver _ s).keepsUnowned _
  | fsmStep =>
    obtain ⟨u, hu, rfl⟩ := (Dwell.exec_fsmStep_eq_next_iff s t).mp h
    exact ((fsmTransition_sameDriver hu).respond_right 0).keepsUnowned _
  | dbUpdate raw => cases h; exact ((offerSample_sameDriver _ raw s).respond_right 0).keepsUnowned _
  | dwell cls r => cases h; exact ((dwellSeconds_sameDriver _ cls r s).respond_right _).keepsUnowned _
  | nop | tmrRead _ | msRead | dbRead | lockClr | statusRead _ | pwmRead _ =>
    cases h; exact SameDriver.keepsUnowned ⟨rfl, rfl, rfl⟩ _

/-- Only the word 0xF000 on the tick port asks for a TICK (R111). -/
theorem eq_tickPort_of_decodeInput {e : Input} (h : decodeInput e = some (.ok .tick)) : e = .tickPort 0xF000 := by
  cases e with
  | reset => cases h
  | tickPort w => exact congrArg _ ((Encoding.decode_tick_eq_ok_iff w 0 .tick).mp (Option.some.inj h)).1
  | command cmd data => cases Encoding.port_of_decode_eq_ok (Option.some.inj h)

/-- A step that is neither RESET nor a TICK keeps the live registers, whether its word is legal or not. -/
theorem step_live {s t : State} (hreset : s.inputs.head? ≠ some .reset) (htick : ticksNext s = false)
    (h : step s = .next t) : live t = live s := by
  obtain ⟨-, rfl⟩ | ⟨rest, hq, -⟩ | ⟨e, rest, i, hq, hi, hexec⟩ | ⟨_, _, rest, _, -, -, rfl⟩ := step_cases s t h
  · rfl
  · simp [hq] at hreset
  · have hne : i ≠ .tick := by
      rintro rfl
      simp [ticksNext, hq, eq_tickPort_of_decodeInput hi] at htick
    obtain ⟨hlive, -, -⟩ := exec_keepsUnowned hexec
    exact (hlive hne : live t = live (afterInput rest s))
  · rfl

/-! ## What a TICK drives (R220, R222, R226, R227) -/

/-- Each line compares the slice with the channel's level, both as they are before the TICK, and inverts if asked. -/
theorem atHead_tickLine (s : State) (h : Head) :
    atHead (tickLine s) h
      = ⟨Bool.xor (decide (s.slice.toNat < (atHead s.level h).r.toNat)) s.cfg.invert,
         Bool.xor (decide (s.slice.toNat < (atHead s.level h).g.toNat)) s.cfg.invert⟩ :=
  atHead_forHeads _ h

/-- The state with the polarity inverted. -/
def inverted (s : State) : State := { s with cfg := { s.cfg with invert := true } }

theorem tickLine_inverted {s : State} (hs : s.cfg.invert = false) (h : Head) :
    (atHead (tickLine (inverted s)) h).r = !(atHead (tickLine s) h).r
      ∧ (atHead (tickLine (inverted s)) h).g = !(atHead (tickLine s) h).g := by
  simp [atHead_tickLine, inverted, hs]

/-- The Frame event that the opposite polarity emits: each duty's complement in the 32 slices. -/
def complementDuties (e : FrameEvent) : FrameEvent := ⟨e.head, 32 - e.dutyR, 32 - e.dutyG⟩

theorem frameEvent_inverted {s : State} (hs : s.cfg.invert = false) (h : Head) :
    frameEvent Config.params (inverted s) h = complementDuties (frameEvent Config.params s h) := by
  simp [frameEvent, complementDuties, duty, inverted, hs]

theorem tickFrames_inverted {s : State} (hs : s.cfg.invert = false) :
    tickFrames Config.params (inverted s) = (tickFrames Config.params s).map complementDuties := by
  have hslice : (inverted s).slice = s.slice := rfl
  simp only [tickFrames, hslice, frameEvent_inverted hs]
  split <;> rfl

/-! ## One frame along a run (R223) -/

/-- A step inside a frame advances the slice exactly when it is a TICK, and keeps the levels. -/
theorem step_inside_frame {s t : State} (hreset : s.inputs.head? ≠ some .reset) (h : step s = .next t)
    (hin : ticksNext s = true → s.slice.toNat < 31) :
    t.slice.toNat = s.slice.toNat + (if ticksNext s then 1 else 0) ∧ t.level = s.level := by
  cases htick : ticksNext s with
  | false =>
    have hlive := step_live hreset htick h
    exact ⟨congrArg (fun x => x.slice.toNat) hlive, congrArg Live.level hlive⟩
  | true =>
    have hlt := hin htick
    obtain ⟨rest, hstep⟩ := Timebase.step_of_ticksNext htick
    cases hstep.symm.trans h
    have hend : frameEnd Config.params (afterInput rest s) = false := by
      simpa [frameEnd] using Nat.ne_of_lt hlt
    obtain ⟨-, -, -, hlevel⟩ := tick_inside Config.params _ hend
    refine ⟨?slice, hlevel⟩
    rw [tickBlock_slice, params_pwmSlices, incMod_32, afterInput_slice, if_pos rfl]
    bv_omega

/-- Along a run that starts a frame the slice counts the TICK steps, and the levels stay, up to the frame's last tick. -/
theorem slice_level_in_frame {st : Nat → State} (h0 : (st 0).slice = 0) (n : Nat) (hticks : ticksIn st n < 32)
    (hrun : ∀ k < n, step (st k) = .next (st (k + 1)) ∧ (st k).inputs.head? ≠ some .reset) :
    (st n).slice.toNat = ticksIn st n ∧ (st n).level = (st 0).level := by
  induction n with
  | zero => exact ⟨by rw [h0]; rfl, rfl⟩
  | succ n ih =>
    rw [Timebase.ticksIn_succ] at hticks ⊢
    obtain ⟨hslice, hlevel⟩ := ih (by omega) fun k hk => hrun k (Nat.lt_succ_of_lt hk)
    obtain ⟨hstep, hreset⟩ := hrun n (Nat.lt_succ_self n)
    obtain ⟨hslice', hlevel'⟩ := step_inside_frame hreset hstep fun htick => by
      rw [if_pos htick] at hticks
      omega
    exact ⟨by rw [hslice', hslice], hlevel'.trans hlevel⟩

/-! ## The standard fade (R217, R224) -/

/-- How many single steps a level is away from its target. -/
def gap (x goal : Level) : Nat := Nat.dist x.toNat goal.toNat

theorem gap_eq_zero_iff (x goal : Level) : gap x goal = 0 ↔ x = goal := by
  rw [← BitVec.toNat_inj]
  exact ⟨Nat.eq_of_dist_eq_zero, Nat.dist_eq_zero⟩

theorem gap_le (x goal : Level) : gap x goal ≤ 31 := by
  simp only [gap, Nat.dist]
  omega

/-- A standard fade step takes one from the gap of a channel, whatever the other channel holds. -/
theorem gap_fadeLevel_standard (old other goal : Level) :
    gap (fadeLevel false old other goal) goal = gap old goal - 1 := by
  simp only [gap, Nat.dist]
  obtain ⟨hlt, h⟩ | ⟨hlt, -, h⟩ | ⟨rfl | ⟨-, hfalse, -⟩, h⟩ := fadeLevel_cases false old other goal
  · rw [h]; bv_omega
  · rw [h]; bv_omega
  · rw [h]; omega
  · cases hfalse

/-- A head's levels after `n` standard frame boundaries with a constant target. -/
def standardAfter (goal : PerChannel Level) (n : Nat) (old : PerChannel Level) : PerChannel Level :=
  (fun x => fadeHead false x goal)^[n] old

/-- `n` frame boundaries take `n` from each channel's gap, down to 0. -/
theorem gap_standardAfter (old goal : PerChannel Level) (n : Nat) :
    gap (standardAfter goal n old).r goal.r = gap old.r goal.r - n
      ∧ gap (standardAfter goal n old).g goal.g = gap old.g goal.g - n := by
  induction n with
  | zero => exact ⟨rfl, rfl⟩
  | succ n ih =>
    obtain ⟨hr, hg⟩ := ih
    have hsucc : standardAfter goal (n + 1) old = fadeHead false (standardAfter goal n old) goal :=
      Function.iterate_succ_apply' ..
    rw [hsucc]
    exact ⟨by rw [fadeHead, gap_fadeLevel_standard, hr, Nat.sub_sub],
      by rw [fadeHead, gap_fadeLevel_standard, hg, Nat.sub_sub]⟩

/-- A head is at its target after 31 boundaries, because no gap exceeds 31, and it stays there. -/
theorem standardAfter_eq_goal (old goal : PerChannel Level) {n : Nat} (hn : 31 ≤ n) :
    standardAfter goal n old = goal := by
  obtain ⟨hr, hg⟩ := gap_standardAfter old goal n
  rw [Nat.sub_eq_zero_of_le ((gap_le ..).trans hn), gap_eq_zero_iff] at hr hg
  exact PerChannel.ext hr hg

/-- A head is not at its target before its red channel's gap is used up. -/
theorem standardAfter_ne_goal {old goal : PerChannel Level} {n : Nat} (hn : n < gap old.r goal.r) :
    standardAfter goal n old ≠ goal := by
  intro h
  obtain ⟨hr, -⟩ := gap_standardAfter old goal n
  rw [h, (gap_eq_zero_iff ..).mpr rfl] at hr
  omega

/-- The heads fade independently of each other. -/
theorem atHead_iterate_fadeStep (old goal : PerHead (PerChannel Level)) (h : Head) (n : Nat) :
    atHead ((fun x => fadeStep false x goal)^[n] old) h = standardAfter (atHead goal h) n (atHead old h) := by
  have hsemi : Function.Semiconj (fun x => atHead x h) (fun x => fadeStep false x goal)
      (fun x => fadeHead false x (atHead goal h)) := fun x => atHead_forHeads _ h
  exact hsemi.iterate_right n old

/-! ## The searchlight fade from RED to GREEN (R218, R225) -/

/-- A head's levels after `n` searchlight frame boundaries from full red with target full green. -/
def searchlightAfter (n : Nat) : PerChannel Level := (fun x => fadeHead true x ⟨0, 31⟩)^[n] ⟨31, 0⟩

theorem searchlightAfter_succ (n : Nat) : searchlightAfter (n + 1) = fadeHead true (searchlightAfter n) ⟨0, 31⟩ :=
  Function.iterate_succ_apply' ..

/-- While red is lit it falls, and green waits. -/
theorem fadeHead_red_falls : ∀ r : Level, r ≠ 0 → fadeHead true ⟨r, 0⟩ ⟨0, 31⟩ = ⟨r - 1, 0⟩ := by decide

/-- Once red is dark green rises. -/
theorem fadeHead_green_rises : ∀ g : Level, g ≠ 31 → fadeHead true ⟨0, g⟩ ⟨0, 31⟩ = ⟨0, g + 1⟩ := by decide

/-- The first 31 boundaries: red falls to 0. -/
theorem searchlightAfter_falling {n : Nat} (hn : n ≤ 31) : searchlightAfter n = ⟨BitVec.ofNat 5 (31 - n), 0⟩ := by
  induction n with
  | zero => rfl
  | succ n ih =>
    rw [searchlightAfter_succ, ih (by omega), fadeHead_red_falls _ (by bv_omega)]
    congr 1
    bv_omega

/-- The next 31 boundaries: green rises from 0. -/
theorem searchlightAfter_rising {n : Nat} (hn : n ≤ 31) : searchlightAfter (31 + n) = ⟨0, BitVec.ofNat 5 n⟩ := by
  induction n with
  | zero => exact searchlightAfter_falling le_rfl
  | succ n ih =>
    rw [← Nat.add_assoc, searchlightAfter_succ, ih (by omega), fadeHead_green_rises _ (by bv_omega)]
    congr 1
    bv_omega

/-- Both channels are dark after the 31st boundary and after no other of the 62. -/
theorem searchlightAfter_dark_iff {n : Nat} (hn : n ≤ 62) : searchlightAfter n = ⟨0, 0⟩ ↔ n = 31 := by
  obtain hle | ⟨m, rfl⟩ : n ≤ 31 ∨ ∃ m, n = 31 + m := (le_total n 31).imp id Nat.exists_eq_add_of_le
  · rw [searchlightAfter_falling hle]
    simp only [PerChannel.mk.injEq, and_true]
    bv_omega
  · rw [searchlightAfter_rising (by omega)]
    simp only [PerChannel.mk.injEq, true_and]
    bv_omega

/-! ## The obligations -/

/-- Settles O35: every instruction keeps the driver registers it does not own. -/
theorem driverOwnership : Obligations.DriverOwnership := by
  intro i s t h
  obtain ⟨hlive, haspect, hcfg⟩ := exec_keepsUnowned h
  refine ⟨fun hi => ?_, haspect, hcfg⟩
  obtain ⟨hlevel, htarget, hslice, hframe, hphase, -⟩ := (live_eq_iff s t).mp (hlive hi)
  exact ⟨hlevel, htarget, hslice, hframe, hphase⟩

/-- Settles O26: TICK drives the lines by `tickLine`, and a step that takes a command word keeps the live registers. -/
theorem onlyTickDrivesLines : Obligations.OnlyTickDrivesLines := by
  constructor
  · intro s h
    refine ⟨tickBlock Config.params s, Timebase.exec_tick s, ?_⟩
    rw [tickBlock_line, atHead_tickLine]
    exact ⟨rfl, rfl⟩
  · intro s t cmd data rest hq h
    exact congrArg Live.line (step_live (by simp [hq]) (by simp [ticksNext, hq]) h)

/-- Settles O33: inside the frame the slice counts the ticks and the levels stay, and the tick compares the two. -/
theorem frameDutyIsProportional : Obligations.FrameDutyIsProportional := by
  intro st n h h0 hticks htick hrun
  obtain ⟨hslice, hlevel⟩ := slice_level_in_frame h0 n hticks fun k hk =>
    let ⟨hstep, hreset, _⟩ := hrun k hk.le
    ⟨hstep, hreset⟩
  obtain ⟨hstep, -, hinvert⟩ := hrun n le_rfl
  obtain ⟨rest, htickStep⟩ := Timebase.step_of_ticksNext htick
  have hnext : st (n + 1) = tickBlock Config.params (afterInput rest (st n)) :=
    Host.Outcome.next.inj (hstep.symm.trans htickStep)
  refine ⟨hlevel, ?_⟩
  rw [hnext, tickBlock_line, atHead_tickLine, afterInput_slice, afterInput_level, afterInput_cfg, hslice,
    hlevel, hinvert]
  exact ⟨rfl, rfl⟩

/-- Settles O32: of a TICK's writes only the lines and the duties read `invert`. -/
theorem polarityOnlyAtOutputs : Obligations.PolarityOnlyAtOutputs := by
  intro s t u hs ht hu
  cases (Timebase.exec_tick s).symm.trans ht
  cases (Timebase.exec_tick (inverted s)).symm.trans hu
  exact ⟨tickLine_inverted hs, tickFrames_inverted hs, rfl, rfl, rfl, rfl, rfl⟩

/-- Settles O30: each boundary takes one from each gap, no gap exceeds 31, and from RED to GREEN and back it is 31. -/
theorem standardFadeLength : Obligations.StandardFadeLength := by
  refine ⟨fun old goal n hn => ?_, fun n hn => standardAfter_ne_goal hn, fun n hn => standardAfter_ne_goal hn⟩
  have hhead (h : Head) : atHead ((fun x => fadeStep false x goal)^[n] old) h = atHead goal h := by
    rw [atHead_iterate_fadeStep, standardAfter_eq_goal _ _ hn]
  exact PerHead.ext (hhead .a) (hhead .b)

/-- Settles O31: red falls for 31 boundaries, then green rises for 31, and between them lies the one dark frame. -/
theorem searchlightFadeLength : Obligations.SearchlightFadeLength :=
  ⟨fun _ => searchlightAfter_falling, fun _ => searchlightAfter_rising, fun _ => searchlightAfter_dark_iff⟩

end Sys2Proof.AspectDriver

/-! # The junction lock and the interlocking state machine (44_interlocking): what a step can do to their registers, the
invariants that every step keeps, and the guards of each state. -/

namespace Sys2Proof.Interlocking

open Sys2Proof.Machine

/-! ## The transitions of the state machine (R280) -/

/-- The transitions of FSM_STEP by name: the state each leaves, its writes, and of its guard what the invariants of R281
to R285 turn on (R280). -/
inductive Transition (P : Config.Params) (s : State) : State → Prop
  | stay : Transition P s s
  | pick (d : Approach) (hidle : s.fsmState = .idle) : Transition P s (pickApproach P d s)
  | request (hdelay : s.fsmState = .delay) (hexpired : s.tmr.delay = 0) : Transition P s (goto .request s)
  | grant (d : Approach) (hrequest : s.fsmState = .request) (hfree : s.locked = false) (hclear : occJ s = false)
      (hholder : s.holder = some d) : Transition P s (goto .clearance (grantLock d s))
  | occupy (hgranting : s.fsmState = .clearance ∨ s.fsmState = .timeout) : Transition P s (goto .occupied s)
  | wait (v : Word) (hclearance : s.fsmState = .clearance) : Transition P s (goto .timeout (armTimer .timeout v s))
  | resume (v : Word) (htimeout : s.fsmState = .timeout) : Transition P s (goto .clearance (armTimer .timeout v s))
  | lockout (v : Word) (hoccupied : s.fsmState = .occupied) : Transition P s (goto .lockout (armTimer .lockout v s))
  | clearing (hoccupied : s.fsmState = .occupied) : Transition P s (goto .clearing s)
  | release (hlockout : s.fsmState = .lockout → s.tmr.lockout = 0)
      (hleaves : s.fsmState = .timeout ∨ s.fsmState = .lockout ∨ s.fsmState = .clearing) : Transition P s (enterReset s)
  | restart (hreset : s.fsmState = .reset) : Transition P s (goto .idle s)

/-- Every transition of the model is one of these. -/
theorem transition_of_fsmTransition {P : Config.Params} {s t : State} (h : fsmTransition P s = .ok t) :
    Transition P s t := by
  rcases fsmTransition_cases P s t h with
    rfl | ⟨hs, -, d, -, rfl⟩ | ⟨hs, hexp, rfl⟩ | ⟨hs, hfree, hclear, d, hd, rfl⟩ | ⟨hs, -, rfl⟩ | ⟨hs, -, d, -, -, rfl⟩
      | ⟨hs, -, d, -, -, rfl⟩ | ⟨hs, -, -, -, rfl⟩ | ⟨hs, -, rfl⟩ | ⟨hs, -, -, rfl⟩ | ⟨hs, hexp, rfl⟩ | ⟨hs, -, -, rfl⟩
      | ⟨hs, rfl⟩
  · exact .stay
  · exact .pick d hs
  · exact .request hs (beq_iff_eq.mp hexp)
  · exact .grant d hs hfree hclear hd
  · exact .occupy hs
  · exact .wait _ hs
  · exact .resume _ hs
  · exact .release (by simp [hs]) (.inl hs)
  · exact .lockout _ hs
  · exact .clearing hs
  · exact .release (fun _ => beq_iff_eq.mp hexp) (.inr (.inl hs))
  · exact .release (by simp [hs]) (.inr (.inr hs))
  · exact .restart hs

/-! What a pick leaves in the registers that the invariants read (R266). -/

@[simp] theorem pickApproach_fsmState (P : Config.Params) (d : Approach) (s : State) :
    (pickApproach P d s).fsmState = .delay := by rw [pickApproach_eq]

@[simp] theorem pickApproach_holder (P : Config.Params) (d : Approach) (s : State) :
    (pickApproach P d s).holder = some d := by rw [pickApproach_eq]

@[simp] theorem pickApproach_locked (P : Config.Params) (d : Approach) (s : State) :
    (pickApproach P d s).locked = s.locked := by rw [pickApproach_eq]

@[simp] theorem pickApproach_lockHolder (P : Config.Params) (d : Approach) (s : State) :
    (pickApproach P d s).lockHolder = s.lockHolder := by rw [pickApproach_eq]

@[simp] theorem pickApproach_tmr_lockout (P : Config.Params) (d : Approach) (s : State) :
    (pickApproach P d s).tmr.lockout = s.tmr.lockout := by rw [pickApproach_eq]; rfl

/-! ## Each invariant along one transition -/

section
variable {P : Config.Params} {s t : State}

/-- R283: a pick sets the holder where it leaves IDLE, and the release clears it where it enters RESET. -/
theorem Transition.holderMatches (h : Transition P s t) (hs : HolderMatches s) : HolderMatches t := by
  unfold HolderMatches at hs ⊢
  cases h with
  | stay => exact hs
  | pick d => simp
  | grant d _ _ _ hholder => simp [hholder]
  | release => simp
  | occupy hst => obtain hst | hst := hst <;> simpa [hst] using hs
  | request hst | wait _ hst | resume _ hst | lockout _ hst | clearing hst | restart hst => simpa [hst] using hs

/-- R281: only the grant and the release write the lock, and both write its record with its flag. -/
theorem Transition.lockRecord (h : Transition P s t) (hs : LockRecord s) : LockRecord t := by
  cases h with
  | pick d => simpa [LockRecord] using hs
  | grant | release => rfl
  | stay | request | occupy | wait | resume | lockout | clearing | restart => exact hs

/-- R282: the grant takes the lock for the holder where the locked states begin, and the release frees it. -/
theorem Transition.lockMatches (h : Transition P s t) (hs : LockMatches s) : LockMatches t := by
  unfold LockMatches at hs ⊢
  cases h with
  | stay => exact hs
  | pick d hst => simp_all [lockedState]
  | grant d _ _ _ hholder => simp [lockedState, hholder]
  | release => simp [lockedState]
  | occupy hst => obtain hst | hst := hst <;> simpa [hst, lockedState] using hs
  | request hst | wait _ hst | resume _ hst | lockout _ hst | clearing hst | restart hst =>
    simpa [hst, lockedState] using hs

/-- R284: only the entry of LOCKOUT arms the lockout timer, and LOCKOUT is left only once it is 0. -/
theorem Transition.lockoutQuiet (h : Transition P s t) (hs : LockoutQuiet s) : LockoutQuiet t := by
  cases h with
  | stay => exact hs
  | pick d hst => exact fun _ => (pickApproach_tmr_lockout P d s).trans (hs (by simp [hst]))
  | lockout => exact fun hne => absurd rfl hne
  | release hlockout => exact fun _ => (em (s.fsmState = .lockout)).elim hlockout hs
  | occupy hst => exact fun _ => hs (by obtain hst | hst := hst <;> simp [hst])
  | request hst | grant _ hst | wait _ hst | resume _ hst | clearing hst | restart hst =>
    exact fun _ => hs (by simp [hst])

/-- R285: only the entry of DELAY arms the delay timer, and DELAY is left only once it is 0. -/
theorem Transition.delayQuiet (h : Transition P s t) (hs : DelayQuiet s) : DelayQuiet t := by
  cases h with
  | stay => exact hs
  | pick d => exact fun hne => absurd (pickApproach_fsmState P d s) hne
  | request _ hexpired => exact fun _ => hexpired
  | release _ hst => exact fun _ => hs (by obtain hst | hst | hst := hst <;> simp [hst])
  | occupy hst => exact fun _ => hs (by obtain hst | hst := hst <;> simp [hst])
  | grant _ hst | wait _ hst | resume _ hst | lockout _ hst | clearing hst | restart hst =>
    exact fun _ => hs (by simp [hst])

end

/-! ## What an instruction can do to the interlocking's registers -/

/-- The registers of R33 and R40 to R43 have the same values in two states. -/
structure SameInterlocking (s t : State) : Prop where
  fsmState : t.fsmState = s.fsmState
  holder : t.holder = s.holder
  locked : t.locked = s.locked
  lockHolder : t.lockHolder = s.lockHolder
  tmr : t.tmr = s.tmr

/-- The writes of an instruction among those registers, as R30 names them, with what guards the lock; `keeps` is every path
that writes none of them. -/
inductive Effect (s : State) : Instr → State → Prop
  | transition {t : State} (h : Transition Config.params s t) : Effect s .fsmStep t
  | grant (sel : Selector) (d : Approach) (hfree : s.locked = false) (hclear : occJ s = false) :
      Effect s (.lockReq sel) (grantLock d s)
  | release : Effect s .lockClr (lockRelease s)
  | arm (sel : Selector) (value : Word) (u : Timer) : Effect s (.tmrArm sel value) (armTimer u value s)
  | tick : Effect s .tick (tickBlock Config.params s)
  | keeps (i : Instr) : Effect s i s

theorem lockAcquire_effect (sel : Selector) (d : Approach) (s : State) :
    Effect s (.lockReq sel) (lockAcquire d s).2 := by
  obtain ⟨hfree, hclear, h⟩ | ⟨-, h⟩ := lockAcquire_cases d s <;> rw [h]
  · exact .grant sel d hfree hclear
  · exact .keeps _

theorem dwellSeconds_sameInterlocking (P : Config.Params) (k : Byte) (r : Bool) (s : State) :
    SameInterlocking s (dwellSeconds P k r s).2 := by
  rw [dwellSeconds_state]
  cases r <;> exact ⟨rfl, rfl, rfl, rfl, rfl⟩

theorem offerSample_sameInterlocking (P : Config.Params) (raw : Byte) (s : State) :
    SameInterlocking s (offerSample P raw s) := by
  obtain ⟨-, h⟩ | ⟨-, h⟩ := offerSample_cases P raw s <;> rw [h] <;> exact ⟨rfl, rfl, rfl, rfl, rfl⟩

/-- Every instruction has one of these effects, ill-formed operands included. -/
theorem exec_effect {i : Instr} {s t : State} (h : exec i s = .next t) :
    ∃ u, Effect s i u ∧ SameInterlocking u t := by
  cases i with
  | fsmStep =>
    obtain ⟨u, hu, rfl⟩ := (Dwell.exec_fsmStep_eq_next_iff s t).mp h
    exact ⟨u, .transition (transition_of_fsmTransition hu), ⟨rfl, rfl, rfl, rfl, rfl⟩⟩
  | lockReq sel =>
    simp only [exec, execLockReq] at h
    split at h <;> cases h
    · exact ⟨_, lockAcquire_effect sel _ s, ⟨rfl, rfl, rfl, rfl, rfl⟩⟩
    · exact ⟨s, .keeps _, ⟨rfl, rfl, rfl, rfl, rfl⟩⟩
  | lockClr => cases h; exact ⟨_, .release, ⟨rfl, rfl, rfl, rfl, rfl⟩⟩
  | tmrArm sel value =>
    simp only [exec, execTmrArm] at h
    split at h <;> cases h
    · exact ⟨_, .arm sel value _, ⟨rfl, rfl, rfl, rfl, rfl⟩⟩
    · exact ⟨s, .keeps _, ⟨rfl, rfl, rfl, rfl, rfl⟩⟩
  | tick => cases h; exact ⟨_, .tick, ⟨rfl, rfl, rfl, rfl, rfl⟩⟩
  | aspectSet hd aspect flash =>
    simp only [exec, execAspectSet] at h
    split at h <;> cases h <;> exact ⟨s, .keeps _, ⟨rfl, rfl, rfl, rfl, rfl⟩⟩
  | dwell cls r =>
    cases h
    obtain ⟨h₁, h₂, h₃, h₄, h₅⟩ := dwellSeconds_sameInterlocking Config.params cls r s
    exact ⟨s, .keeps _, ⟨h₁, h₂, h₃, h₄, h₅⟩⟩
  | dbUpdate raw =>
    cases h
    obtain ⟨h₁, h₂, h₃, h₄, h₅⟩ := offerSample_sameInterlocking Config.params raw s
    exact ⟨s, .keeps _, ⟨h₁, h₂, h₃, h₄, h₅⟩⟩
  | nop | tmrRead _ | msRead | dbRead | cfgWrite _ | aspectSync | statusRead _ | pwmRead _ =>
    cases h; exact ⟨s, .keeps _, ⟨rfl, rfl, rfl, rfl, rfl⟩⟩

/-- Only FSM_STEP writes the state machine's state and its holder (R30). -/
theorem exec_sameMachine {i : Instr} (hfsm : i ≠ .fsmStep) {s t : State} (h : exec i s = .next t) :
    t.fsmState = s.fsmState ∧ t.holder = s.holder := by
  obtain ⟨u, heffect, hsame⟩ := exec_effect h
  rw [hsame.fsmState, hsame.holder]
  cases heffect with
  | transition => exact absurd rfl hfsm
  | grant | release | arm | tick | keeps => exact ⟨rfl, rfl⟩

/-- No instruction writes the schedule (log 1). -/
theorem exec_inputs {i : Instr} {s t : State} (h : exec i s = .next t) : t.inputs = s.inputs := by
  cases i with
  | fsmStep =>
    obtain ⟨u, hu, rfl⟩ := (Dwell.exec_fsmStep_eq_next_iff s t).mp h
    rw [respond_inputs, AspectDriver.fsmTransition_frame hu]
  | lockReq sel =>
    simp only [exec, execLockReq] at h
    split at h <;> cases h
    · rename_i d _
      obtain ⟨-, -, hacq⟩ | ⟨-, hacq⟩ := lockAcquire_cases d s <;> rw [hacq] <;> rfl
    · rfl
  | tmrArm sel value =>
    simp only [exec, execTmrArm] at h
    split at h <;> cases h <;> rfl
  | aspectSet hd aspect flash =>
    simp only [exec, execAspectSet] at h
    split at h <;> cases h <;> rfl
  | dwell cls r => cases h; simp only [dwellCommand, respond_inputs, dwellSeconds_state]; cases r <;> rfl
  | dbUpdate raw =>
    cases h
    obtain ⟨-, hsample⟩ | ⟨-, hsample⟩ := offerSample_cases Config.params raw s <;> rw [hsample] <;> rfl
  | nop | tmrRead _ | msRead | dbRead | lockClr | cfgWrite _ | aspectSync | statusRead _ | pwmRead _ | tick =>
    cases h; rfl

/-! ## What a step can do to them -/

/-- A step takes the first input of the schedule and leaves the rest (R14; log 1). -/
theorem step_inputs {s t : State} (h : step s = .next t) : t.inputs = s.inputs.tail := by
  obtain ⟨hq, rfl⟩ | ⟨rest, hq, rfl⟩ | ⟨_, rest, _, hq, -, hexec⟩ | ⟨_, _, rest, _, hq, -, rfl⟩ := step_cases s t h
  · simp [hq]
  · rw [hq]; rfl
  · rw [hq, exec_inputs hexec]; rfl
  · rw [hq]; rfl

/-- A step keeps the interlocking's registers, resets them, or has the effect of the instruction it takes: IllegalCommand
and an empty schedule write none of them (R330, R345). -/
theorem step_effect {s t : State} (h : step s = .next t) :
    SameInterlocking s t ∨ SameInterlocking State.reset t
      ∨ ∃ i rest u, s.inputs.head?.bind decodeInput = some (.ok i) ∧ Effect (afterInput rest s) i u
        ∧ SameInterlocking u t := by
  obtain ⟨-, rfl⟩ | ⟨_, -, rfl⟩ | ⟨e, rest, i, hq, hi, hexec⟩ | ⟨_, _, _, _, -, -, rfl⟩ := step_cases s t h
  · exact .inl ⟨rfl, rfl, rfl, rfl, rfl⟩
  · exact .inr (.inl ⟨rfl, rfl, rfl, rfl, rfl⟩)
  · obtain ⟨u, heffect, hsame⟩ := exec_effect hexec
    exact .inr (.inr ⟨i, rest, u, by simpa [hq] using hi, heffect, hsame⟩)
  · exact .inl ⟨rfl, rfl, rfl, rfl, rfl⟩

/-- A property of the interlocking's registers that RESET leaves and the effect of every permitted instruction keeps is
kept by every step that takes no other. -/
theorem step_keeps {Inv : State → Prop} {permitted : Instr → Prop}
    (hsame : ∀ {s t}, SameInterlocking s t → Inv s → Inv t) (hreset : Inv State.reset)
    (heffect : ∀ {s i u}, permitted i → Effect s i u → Inv s → Inv u) {s t : State}
    (hpermitted : ∀ i, s.inputs.head?.bind decodeInput = some (.ok i) → permitted i)
    (hs : Inv s) (h : step s = .next t) : Inv t := by
  obtain hst | hrt | ⟨i, rest, u, hi, hiu, hut⟩ := step_effect h
  · exact hsame hst hs
  · exact hsame hrt hreset
  · have hafter : SameInterlocking s (afterInput rest s) := ⟨rfl, rfl, rfl, rfl, rfl⟩
    exact hsame hut (heffect (hpermitted i hi) hiu (hsame hafter hs))

/-! ## The holder and the lock, whatever the host issues (R281, R283) -/

theorem SameInterlocking.holderMatches {s t : State} (h : SameInterlocking s t) (hs : HolderMatches s) :
    HolderMatches t := by
  rwa [HolderMatches, h.holder, h.fsmState]

/-- Of the instructions only FSM_STEP writes what R283 speaks of. -/
theorem Effect.holderMatches {s u : State} {i : Instr} (h : Effect s i u) (hs : HolderMatches s) : HolderMatches u := by
  cases h with
  | transition h => exact h.holderMatches hs
  | grant | release | arm | tick | keeps => exact hs

theorem SameInterlocking.lockRecord {s t : State} (h : SameInterlocking s t) (hs : LockRecord s) : LockRecord t := by
  rwa [LockRecord, h.locked, h.lockHolder]

theorem Effect.lockRecord {s u : State} {i : Instr} (h : Effect s i u) (hs : LockRecord s) : LockRecord u := by
  cases h with
  | transition h => exact h.lockRecord hs
  | grant | release => rfl
  | arm | tick | keeps => exact hs

/-- From the first state to the second the lock is taken only at a clear junction, and not passed on while held (R281). -/
def LockExclusive (s t : State) : Prop :=
  (s.locked = false → t.locked = true → occJ s = false)
    ∧ (s.locked = true → t.locked = true → t.lockHolder = s.lockHolder)

theorem lockExclusive_of_kept {s t : State} (hflag : t.locked = s.locked) (hrecord : t.lockHolder = s.lockHolder) :
    LockExclusive s t :=
  ⟨fun hfree hheld => by simp [hflag, hfree] at hheld, fun _ _ => hrecord⟩

theorem lockExclusive_of_free {s t : State} (hfree : t.locked = false) : LockExclusive s t :=
  ⟨fun _ hheld => by simp [hfree] at hheld, fun _ hheld => by simp [hfree] at hheld⟩

theorem lockExclusive_of_clear {s t : State} (hfree : s.locked = false) (hclear : occJ s = false) : LockExclusive s t :=
  ⟨fun _ _ => hclear, fun hheld => by simp [hfree] at hheld⟩

theorem Transition.lockExclusive {P : Config.Params} {s t : State} (h : Transition P s t) : LockExclusive s t := by
  cases h with
  | pick d => exact lockExclusive_of_kept (pickApproach_locked P d s) (pickApproach_lockHolder P d s)
  | grant _ _ hfree hclear => exact lockExclusive_of_clear hfree hclear
  | release => exact lockExclusive_of_free rfl
  | stay | request | occupy | wait | resume | lockout | clearing | restart => exact lockExclusive_of_kept rfl rfl

theorem Effect.lockExclusive {s u : State} {i : Instr} (h : Effect s i u) : LockExclusive s u := by
  cases h with
  | transition h => exact h.lockExclusive
  | grant _ _ hfree hclear => exact lockExclusive_of_clear hfree hclear
  | release => exact lockExclusive_of_free rfl
  | arm | tick | keeps => exact lockExclusive_of_kept rfl rfl

theorem step_lockExclusive {s t : State} (h : step s = .next t) : LockExclusive s t := by
  obtain hst | hrt | ⟨i, rest, u, -, hiu, hut⟩ := step_effect h
  · exact lockExclusive_of_kept hst.locked hst.lockHolder
  · exact lockExclusive_of_free hrt.locked
  · have hu : LockExclusive (afterInput rest s) u := hiu.lockExclusive
    rwa [LockExclusive, ← hut.locked, ← hut.lockHolder] at hu

/-! ## The runs without direct writes (R282, R284, R285, R289) -/

theorem SameInterlocking.lockMatches {s t : State} (h : SameInterlocking s t) (hs : LockMatches s) : LockMatches t := by
  rwa [LockMatches, h.locked, h.lockHolder, h.fsmState, h.holder]

theorem SameInterlocking.lockoutQuiet {s t : State} (h : SameInterlocking s t) (hs : LockoutQuiet s) :
    LockoutQuiet t := by
  rwa [LockoutQuiet, h.fsmState, h.tmr]

theorem SameInterlocking.delayQuiet {s t : State} (h : SameInterlocking s t) (hs : DelayQuiet s) : DelayQuiet t := by
  rwa [DelayQuiet, h.fsmState, h.tmr]

section
variable {s u : State} {i : Instr}

theorem Effect.lockMatches (hi : directWrite i = false) (h : Effect s i u) (hs : LockMatches s) : LockMatches u := by
  cases h with
  | transition h => exact h.lockMatches hs
  | grant | release | arm => cases hi
  | tick | keeps => exact hs

/-- A timer at 0 stays there under TICK (R143). -/
theorem Effect.lockoutQuiet (hi : directWrite i = false) (h : Effect s i u) (hs : LockoutQuiet s) : LockoutQuiet u := by
  cases h with
  | transition h => exact h.lockoutQuiet hs
  | grant | release | arm => cases hi
  | tick => exact fun hne => congrArg countDown (hs hne)
  | keeps => exact hs

/-- A timer at 0 stays there under TICK (R143). -/
theorem Effect.delayQuiet (hi : directWrite i = false) (h : Effect s i u) (hs : DelayQuiet s) : DelayQuiet u := by
  cases h with
  | transition h => exact h.delayQuiet hs
  | grant | release | arm => cases hi
  | tick => exact fun hne => congrArg countDown (hs hne)
  | keeps => exact hs

end

/-- In a run without direct writes no step takes one (R289). -/
theorem directWrite_of_fsmOnly {q : List Input} (hq : FsmOnly q) (i : Instr)
    (hi : q.head?.bind decodeInput = some (.ok i)) : directWrite i = false := by
  cases q with
  | nil => cases hi
  | cons e rest =>
    have he : decodeInput e = some (.ok i) := hi
    have hwrite := hq e List.mem_cons_self
    rwa [directWriteInput, he] at hwrite

theorem fsmRun_reset {q : List Input} (hq : FsmOnly q) : FsmRun (withInputs q State.reset) :=
  ⟨(by decide : HolderMatches State.reset), (by decide : LockMatches State.reset), fun _ => rfl, fun _ => rfl, hq⟩

/-- Every step of a run without direct writes keeps the five parts of `FsmRun` (R282 to R285, R289). -/
theorem step_fsmRun {s t : State} (hs : FsmRun s) (h : step s = .next t) : FsmRun t := by
  obtain ⟨hholder, hlock, hlockout, hdelay, hq⟩ := hs
  have hpermitted := directWrite_of_fsmOnly hq
  refine ⟨?holder, ?lock, ?lockout, ?delay, ?schedule⟩
  case holder =>
    exact step_keeps SameInterlocking.holderMatches (by decide) (fun _ => Effect.holderMatches) hpermitted hholder h
  case lock => exact step_keeps SameInterlocking.lockMatches (by decide) Effect.lockMatches hpermitted hlock h
  case lockout =>
    exact step_keeps SameInterlocking.lockoutQuiet (fun _ => rfl) Effect.lockoutQuiet hpermitted hlockout h
  case delay => exact step_keeps SameInterlocking.delayQuiet (fun _ => rfl) Effect.delayQuiet hpermitted hdelay h
  case schedule => rw [step_inputs h]; exact fun e he => hq e (List.mem_of_mem_tail he)

/-! ## The commanded aspects (R212, R278, R286) -/

theorem aspectOf_congr {s t : State} (hstate : t.fsmState = s.fsmState) (hholder : t.holder = s.holder) (h : Head) :
    aspectOf t h = aspectOf s h := by
  rw [aspectOf, hstate, hholder, aspectOf]

/-- ASPECT_SYNC puts both heads at the projection (R212). -/
theorem exec_aspectSync_projected {s t : State} (h : exec .aspectSync s = .next t) : Projected t := by
  cases h
  exact fun hd => atHead_forHeads _ hd

/-- No instruction but FSM_STEP and ASPECT_SET takes the heads from the projection. -/
theorem exec_projected {i : Instr} (hfsm : i ≠ .fsmStep) (hset : ∀ hd a f, i ≠ .aspectSet hd a f) {s t : State}
    (hs : Projected s) (h : exec i s = .next t) : Projected t := by
  by_cases hsync : i = .aspectSync
  · subst hsync; exact exec_aspectSync_projected h
  · obtain ⟨hstate, hholder⟩ := exec_sameMachine hfsm h
    obtain ⟨-, hreg, -⟩ := AspectDriver.exec_keepsUnowned h
    intro hd
    rw [hreg hset hsync, hs hd, aspectOf_congr hstate hholder]

theorem resetBlock_projected (s : State) : Projected (resetBlock s) := by
  intro hd; cases hd <;> rfl

/-- A step that takes neither a direct write nor an FSM_STEP keeps the heads at the projection. -/
theorem step_projected {s t : State} (hq : FsmOnly s.inputs)
    (hfsm : s.inputs.head?.bind decodeInput ≠ some (.ok .fsmStep)) (hs : Projected s) (h : step s = .next t) : Projected t := by
  obtain ⟨-, rfl⟩ | ⟨rest, -, rfl⟩ | ⟨e, rest, i, he, hi, hexec⟩ | ⟨_, _, _, _, -, -, rfl⟩ := step_cases s t h
  · exact hs
  · exact resetBlock_projected _
  · have hhead : s.inputs.head?.bind decodeInput = some (.ok i) := by simpa [he] using hi
    have hne : i ≠ .fsmStep := by rintro rfl; exact hfsm hhead
    have hset : ∀ hd a f, i ≠ .aspectSet hd a f := by
      rintro hd a f rfl; cases directWrite_of_fsmOnly hq _ hhead
    exact exec_projected hne hset (s := afterInput rest s) hs hexec
  · exact hs

/-- A step that takes an ASPECT_SYNC leaves the heads at the projection. -/
theorem step_aspectSync_projected {s t : State} (hsync : s.inputs.head?.bind decodeInput = some (.ok .aspectSync))
    (h : step s = .next t) : Projected t := by
  obtain ⟨hq, -⟩ | ⟨rest, hq, -⟩ | ⟨e, rest, i, hq, hi, hexec⟩ | ⟨_, _, _, _, hq, hwhy, -⟩ := step_cases s t h
  · simp [hq] at hsync
  · simp [hq, decodeInput] at hsync
  · obtain rfl : i = .aspectSync := by simpa [hq, hi] using hsync
    exact exec_aspectSync_projected hexec
  · simp [hq, decodeInput, hwhy] at hsync

theorem aspectOf_eq_green_iff (s : State) (h : Head) :
    aspectOf s h = .green ↔ granting s.fsmState = true ∧ s.holder = some (dirOf h) := by
  simp [aspectOf]

theorem aspectOf_eq_red_of_holder {s : State} {h : Head} (hne : s.holder ≠ some (dirOf h)) : aspectOf s h = .red := by
  simp [aspectOf, hne]

/-- The granting states are locked states (R282, R278). -/
theorem lockedState_of_granting {x : InterlockState} (h : granting x = true) : lockedState x = true := by
  revert h; cases x <;> decide

/-- Heads at the projection show GREEN only under the lock (R286). -/
theorem greenOnlyGranted_of_projected {s : State} (hlock : LockMatches s) (hs : Projected s) : GreenOnlyGranted s := by
  obtain ⟨hheld, hrecord, -⟩ := hlock
  have hgreen (h : Head) (hg : (atHead s.aspectReg h).aspect = .green) :
      granting s.fsmState = true ∧ s.holder = some (dirOf h) ∧ s.lockHolder = some (dirOf h) ∧ s.locked = true := by
    rw [hs h] at hg
    obtain ⟨hgrant, hholder⟩ := (aspectOf_eq_green_iff s h).mp hg
    have hlocked : s.locked = true := hheld.trans (lockedState_of_granting hgrant)
    exact ⟨hgrant, hholder, (hrecord hlocked).trans hholder, hlocked⟩
  have hred (h : Head) (hne : s.holder ≠ some (dirOf h)) : (atHead s.aspectReg h).aspect = .red := by
    rw [hs h]; exact aspectOf_eq_red_of_holder hne
  refine ⟨fun hg => ?a, fun hg => ?b⟩
  case a =>
    obtain ⟨hgrant, hholder, hrec, hlocked⟩ := hgreen .a hg
    exact ⟨hgrant, hholder, hrec, hlocked, hred .b (by simp [hholder, dirOf])⟩
  case b =>
    obtain ⟨hgrant, hholder, hrec, hlocked⟩ := hgreen .b hg
    exact ⟨hgrant, hholder, hrec, hlocked, hred .a (by simp [hholder, dirOf])⟩

/-! ## Runs over a schedule -/

theorem run_one (s : State) : Host.Core.run Sys2Proof.core 1 s = step s := by
  cases h : Host.Core.step Sys2Proof.core s <;> simp only [Host.Core.run, h] <;> exact h.symm

/-- Some steps of a run, then the rest. -/
theorem run_add {m n : Nat} {s t : State} (h : Host.Core.run Sys2Proof.core (m + n) s = .next t) :
    ∃ u, Host.Core.run Sys2Proof.core m s = .next u ∧ Host.Core.run Sys2Proof.core n u = .next t := by
  induction m generalizing s with
  | zero => exact ⟨s, rfl, by simpa using h⟩
  | succ m ih =>
    rw [Nat.succ_add] at h
    simp only [Host.Core.run] at h ⊢
    split at h
    · exact ih h
    · cases h
    · cases h

/-- What every step over a part of the schedule keeps holds after that part, and the rest of the schedule is left. -/
theorem run_keeps {Inv : State → Prop} {q rest : List Input}
    (hstep : ∀ {s t e}, e ∈ q → s.inputs.head? = some e → Inv s → step s = .next t → Inv t) {s t : State}
    (hq : s.inputs = q ++ rest) (hs : Inv s) (h : Host.Core.run Sys2Proof.core q.length s = .next t) :
    Inv t ∧ t.inputs = rest := by
  induction q generalizing s with
  | nil => cases h; exact ⟨hs, hq⟩
  | cons e q ih =>
    rw [List.length_cons, Nat.add_comm] at h
    obtain ⟨u, hu, hrun⟩ := run_add h
    have hsu : step s = .next u := (run_one s).symm.trans hu
    exact ih (fun he => hstep (List.mem_cons_of_mem e he)) (by rw [step_inputs hsu, hq]; rfl)
      (hstep List.mem_cons_self (by rw [hq]; rfl) hs hsu) hrun

/-! ## The obligations on invariants -/

/-- Settles O55: FSM_STEP alone writes the state and the holder, and each of its transitions keeps R283. -/
theorem holderMatchesStateAlways : Obligations.HolderMatchesStateAlways := by
  intro s t hs h
  exact step_keeps (permitted := fun _ => True) SameInterlocking.holderMatches (by decide)
    (fun _ => Effect.holderMatches) (fun _ _ => trivial) hs h

/-- Settles O57: each part of `FsmRun` is kept by every transition, by TICK, and by every command that is no direct
write. -/
theorem fsmRunInvariantKept : Obligations.FsmRunInvariantKept := by
  intro s t hs h
  exact step_fsmRun hs h

/-- Settles O40: REQUEST and LOCK_REQ take the lock only where it is free and the junction reads clear, and every other
step keeps it or frees it. -/
theorem mutualExclusion : Obligations.MutualExclusion := by
  intro s t hs h
  obtain ⟨hgranted, hkept⟩ := step_lockExclusive h
  refine ⟨?record, hgranted, hkept⟩
  exact step_keeps (permitted := fun _ => True) SameInterlocking.lockRecord (by decide) (fun _ => Effect.lockRecord)
    (fun _ _ => trivial) hs h

/-- Settles O58: `FsmRun` holds along the whole run, and from the ASPECT_SYNC on the heads stand at the projection. -/
theorem greenOnlyWhenGranted : Obligations.GreenOnlyWhenGranted := by
  intro q₁ q₂ q₃ e t hsync hfsm hq h
  obtain ⟨v, hv, hvt⟩ := run_add h
  obtain ⟨u, hu, huv⟩ := run_add hv
  have hstep : step u = .next v := (run_one u).symm.trans huv
  have hreset : FsmRun (withInputs (q₁ ++ e :: q₂ ++ q₃) State.reset) := fsmRun_reset hq
  obtain ⟨hrunu, hqu⟩ := run_keeps (Inv := FsmRun) (rest := e :: q₂ ++ q₃) (fun _ _ => step_fsmRun)
    (List.append_assoc ..) hreset hu
  have hqv : v.inputs = q₂ ++ q₃ := by rw [step_inputs hstep, hqu]; rfl
  have hprojv : Projected v := step_aspectSync_projected (by rw [hqu]; exact hsync) hstep
  have hkeep {s t : State} {x : Input} (hx : x ∈ q₂) (hhead : s.inputs.head? = some x) (hs : FsmRun s ∧ Projected s)
      (h : step s = .next t) : FsmRun t ∧ Projected t := by
    obtain ⟨hrun, hproj⟩ := hs
    have honly : FsmOnly s.inputs := by obtain ⟨-, -, -, -, honly⟩ := hrun; exact honly
    exact ⟨step_fsmRun hrun h, step_projected honly (by rw [hhead]; exact hfsm x hx) hproj h⟩
  obtain ⟨⟨hrunt, hprojt⟩, -⟩ := run_keeps hkeep hqv ⟨step_fsmRun hrunu hstep, hprojv⟩ hvt
  obtain ⟨-, hlock, -⟩ := hrunt
  exact greenOnlyGranted_of_projected hlock hprojt

/-! ## The guards of each state (R267 to R274) -/

/-- FSM_STEP with the transition its state selects, and response 0 (R277). -/
theorem exec_fsmStep_of_ok {s u : State} (h : fsmTransition Config.params s = .ok u) :
    exec .fsmStep s = .next (respond 0 u) :=
  (Dwell.exec_fsmStep_eq_next_iff s _).mpr ⟨u, h, rfl⟩

section
variable {P : Config.Params} {s : State} {d : Approach}

theorem withHolder_eq_ok (hd : s.holder = some d) (f : Approach → State) : withHolder s f = .ok (f d) := by
  rw [withHolder, hd]

theorem fsmTransition_request (hs : s.fsmState = .request) (hd : s.holder = some d) :
    fsmTransition P s = .ok (fromRequest d s) := by
  simp only [fsmTransition, hs, withHolder_eq_ok hd]

theorem fsmTransition_clearance (hs : s.fsmState = .clearance) (hd : s.holder = some d) :
    fsmTransition P s = .ok (if occJ s then goto .occupied s else fromClearance P d s) := by
  simp only [fsmTransition, hs, withHolder_eq_ok hd, apply_ite Except.ok]

theorem fsmTransition_timeout (hs : s.fsmState = .timeout) (hd : s.holder = some d) :
    fsmTransition P s = .ok (if occJ s then goto .occupied s else fromTimeout d s) := by
  simp only [fsmTransition, hs, withHolder_eq_ok hd, apply_ite Except.ok]

theorem fsmTransition_occupied (hs : s.fsmState = .occupied) (hd : s.holder = some d) :
    fsmTransition P s
      = .ok (if occJ s then fromOccupied d s else goto .lockout (armTimer .lockout (lockoutArm P) s)) := by
  simp only [fsmTransition, hs, withHolder_eq_ok hd, apply_ite Except.ok]

theorem fsmTransition_clearing (hs : s.fsmState = .clearing) (hd : s.holder = some d) :
    fsmTransition P s = .ok (fromClearing P d s) := by
  simp only [fsmTransition, hs, withHolder_eq_ok hd]

theorem fsmTransition_delay (hs : s.fsmState = .delay) : fsmTransition P s = .ok (fromDelay s) := by
  simp only [fsmTransition, hs]

theorem fsmTransition_lockout (hs : s.fsmState = .lockout) : fsmTransition P s = .ok (fromLockout s) := by
  simp only [fsmTransition, hs]

theorem fsmTransition_reset (hs : s.fsmState = .reset) : fsmTransition P s = .ok (goto .idle s) := by
  simp only [fsmTransition, hs]

end

/-- A timer has expired exactly when its word is 0 (R147). -/
theorem expired_iff (s : State) (u : Timer) : expired s u = true ↔ readTimer s.tmr u = 0 := beq_iff_eq

/-- The timeout of each class, every class from 3 on clamped to the last (R276). -/
theorem timeoutTicks_eq (s : State) :
    timeoutTicks Config.params s =
      if s.cfg.timeoutClass = 0 then 10000 else if s.cfg.timeoutClass = 1 then 20000
      else if s.cfg.timeoutClass = 2 then 30000 else 60000 := by
  unfold timeoutTicks
  split_ifs with h0 h1 h2
  · rw [h0]; rfl
  · rw [h1]; rfl
  · rw [h2]; rfl
  · have hlast : clampClass s.cfg.timeoutClass 4 = 3 := Encoding.clampClass_eq_last (by bv_omega)
    rw [params_timeoutClasses, hlast]; rfl

/-- Settles O43: the two outcomes of the acquisition by the holder. -/
theorem fsmRequest : Obligations.FsmRequest := by
  intro s d hs hd
  rw [exec_fsmStep_of_ok (fsmTransition_request hs hd), fromRequest]
  obtain ⟨hfree, hclear, h⟩ | ⟨hno, h⟩ := lockAcquire_cases d s
  · rw [h, if_pos rfl, if_pos ⟨hfree, hclear⟩]; rfl
  · have hrefused : ¬(s.locked = false ∧ s.dbStable.getLsbD 2 = false) := by
      rintro ⟨hfree, hclear⟩
      simp [hfree, show occJ s = false from hclear] at hno
    rw [h, if_neg Bool.false_ne_true, if_neg hrefused]; rfl

/-- Settles O44: the junction is read before the holder's approach. -/
theorem fsmClearance : Obligations.FsmClearance := by
  intro s d hs hd
  rw [exec_fsmStep_of_ok (fsmTransition_clearance hs hd), fromClearance, ← timeoutTicks_eq]
  simp only [occJ, Bool.not_eq_true']
  split_ifs <;> rfl

/-- Settles O45: the junction, the holder's approach and the timer are read in this order. -/
theorem fsmTimeout : Obligations.FsmTimeout := by
  intro s d hs hd
  rw [exec_fsmStep_of_ok (fsmTransition_timeout hs hd), fromTimeout]
  simp only [occJ, expired_iff, readTimer]
  split_ifs <;> rfl

/-- Settles O46: the junction decides whether the opposite approach is read. -/
theorem fsmOccupied : Obligations.FsmOccupied := by
  intro s d hs hd
  rw [exec_fsmStep_of_ok (fsmTransition_occupied hs hd), fromOccupied]
  cases hjunction : s.dbStable.getLsbD 2 with
  | false =>
    have hclear : occJ s = false := hjunction
    rw [hclear, if_neg Bool.false_ne_true, if_pos rfl]; rfl
  | true =>
    have hoccupied : occJ s = true := hjunction
    rw [hoccupied, if_pos rfl, if_neg Bool.true_eq_false.mp]
    split_ifs <;> rfl

/-- Settles O47: no guard of the three states reads the occupancy. -/
theorem fsmDelayLockoutReset : Obligations.FsmDelayLockoutReset := by
  intro s
  refine ⟨fun hs => ?delay, fun hs => ?lockout, fun hs => ?reset⟩
  case delay =>
    rw [exec_fsmStep_of_ok (fsmTransition_delay hs), fromDelay]
    simp only [expired_iff, readTimer]
    split_ifs
    · rfl
    · rw [← hs]; rfl
  case lockout =>
    rw [exec_fsmStep_of_ok (fsmTransition_lockout hs), fromLockout]
    simp only [expired_iff, readTimer]
    split_ifs <;> rfl
  case reset => rw [exec_fsmStep_of_ok (fsmTransition_reset hs)]; rfl

theorem clearingDone_iff (s : State) :
    clearingDone Config.params s = true ↔ Config.strictClearing = false ∨ s.dbStable.getLsbD 2 = false := by
  simp [clearingDone, occJ]

/-- Settles O48: the guard reads the junction in the strict variant only. -/
theorem fsmClearing : Obligations.FsmClearing := by
  intro s d hs hd
  rw [exec_fsmStep_of_ok (fsmTransition_clearing hs hd), fromClearing]
  simp only [Bool.and_eq_true, Bool.not_eq_true', clearingDone_iff]
  split_ifs <;> rfl

end Sys2Proof.Interlocking

/-! # Control (45_control): the one word of NOP, the fields of the status page, and the response of a POLL pass. -/

namespace Sys2Proof.Control

open Sys2Proof.Machine Sys2Proof.Interlocking

/-! ## NOP (R310) -/

/-- The only row of opcode 0 fits the one word 0x0000. -/
theorem opcodeZeroRow_mask : ∀ row ∈ opcodeTable, fieldOp row.pattern = 0 →
    row.mask = BitVec.allOnes 16 ∧ row.pattern = 0 := by decide

theorem fieldOp_eq_zero {cmd : CmdWord} (h : cmd.toNat ≤ 0x0FFF) : fieldOp cmd = 0 := by
  apply BitVec.eq_of_toNat_eq
  rw [Encoding.fieldOp_toNat, show (0 : BitVec 4).toNat = 0 from rfl]
  omega

/-- Every nonzero word of opcode 0 is illegal. -/
theorem decode_opcodeZero_of_ne_zero {cmd : CmdWord} (hop : fieldOp cmd = 0) (hne : cmd ≠ 0) (data : Word) :
    ∃ why, decode .command cmd data = .error why := by
  refine (Encoding.decode_eq_error_iff ..).mpr fun row hmem => ?_
  by_contra hread
  obtain ⟨-, hfits⟩ := Encoding.rowDecode_ne_none hread
  obtain ⟨hmask, hpattern⟩ := opcodeZeroRow_mask row hmem ((Encoding.fieldOp_of_fits hmem hfits).symm.trans hop)
  have hfit : cmd &&& row.mask = row.pattern := by simpa [OpRow.fits] using hfits
  rw [hmask, hpattern, BitVec.and_allOnes] at hfit
  exact hne hfit

/-- Settles O50: `execNop` responds with 0 and writes nothing else, and the one row of opcode 0 has a full mask. -/
theorem nopDoesNothing : Obligations.NopDoesNothing :=
  ⟨fun _ => rfl, fun _ => rfl, fun _ data hle hne => decode_opcodeZero_of_ne_zero (fieldOp_eq_zero hle) hne data⟩

/-! ## The fields of a response word (R313) -/

section
variable {n : Nat} (v : BitVec n) (pos p k : Nat)

/-- A placed field's bits start at its place, and a word holds 32 bits. -/
theorem getLsbD_placed :
    (placed v pos).getLsbD k = (decide (k < 32) && decide (pos ≤ k) && v.getLsbD (k - pos)) := by
  by_cases hk : k < 32 <;> by_cases hp : pos ≤ k <;> simp [placed, hk, hp]

theorem extractLsb'_placed_same (h : pos + n ≤ 32) : (placed v pos).extractLsb' pos n = v := by
  refine BitVec.eq_of_getLsbD_eq fun j hj => ?_
  have hlt : pos + j < 32 := by omega
  rw [BitVec.getLsbD_extractLsb', getLsbD_placed]
  simp [hj, hlt]

/-- The bits below and above a field's place hold none of it. -/
theorem extractLsb'_placed_disjoint (h : p + k ≤ pos ∨ pos + n ≤ p) : (placed v pos).extractLsb' p k = 0 := by
  refine BitVec.eq_of_getLsbD_eq fun j hj => ?_
  rw [BitVec.getLsbD_extractLsb', getLsbD_placed]
  obtain hbelow | habove := h
  · have : ¬ pos ≤ p + j := by omega
    simp [this]
  · simp [BitVec.getLsbD_of_ge v (p + j - pos) (by omega)]

end

/-- Page 0 holds each field at its place, apart from all others (R313). -/
theorem statusWord_fields (s : State) :
    (statusWord s).extractLsb' 0 4 = fsmCode s.fsmState ∧ (statusWord s).extractLsb' 4 2 = directionCode s.holder
      ∧ (statusWord s).extractLsb' 7 2 = directionCode s.lockHolder
      ∧ (statusWord s).extractLsb' 9 2 = aspectCode s.aspectReg.a.aspect
      ∧ (statusWord s).extractLsb' 12 2 = aspectCode s.aspectReg.b.aspect
      ∧ (statusWord s).extractLsb' 15 2 = ind s .a ∧ (statusWord s).extractLsb' 17 2 = ind s .b := by
  unfold statusWord placedBit
  refine ⟨?_, ?_, ?_, ?_, ?_, ?_, ?_⟩
  all_goals simp [BitVec.extractLsb'_or, extractLsb'_placed_same, extractLsb'_placed_disjoint]

/-- Page 0 holds each one-bit field at its place (R313). -/
theorem statusWord_bits (s : State) :
    (statusWord s).getLsbD 6 = s.locked ∧ (statusWord s).getLsbD 11 = s.aspectReg.a.flash
      ∧ (statusWord s).getLsbD 14 = s.aspectReg.b.flash ∧ (statusWord s).getLsbD 19 = waiting s
      ∧ (statusWord s).getLsbD 20 = s.err := by
  unfold statusWord placedBit
  simp only [BitVec.getLsbD_or, getLsbD_placed]
  simp

/-! ## Steps and runs of legal words -/

/-- The commands of a POLL pass are read back from the inputs that present them (R119). -/
theorem decodeInput_encode_poll (raw : Byte) (data : Word) :
    ∀ i ∈ poll raw data, decodeInput (encode i) = some (.ok i) := by
  have hconfig : decode .command 0xB000 data = .ok (.cfgWrite data) := rfl
  have hsample : ∀ raw, decodeInput (encode (.dbUpdate raw)) = some (.ok (.dbUpdate raw)) := by decide
  simp only [poll, List.forall_mem_cons]
  exact ⟨congrArg some hconfig, hsample raw, rfl, rfl, rfl, by simp⟩

/-- A step over an input that decodes is the instruction it decodes to, on the state with the rest of the schedule. -/
theorem step_of_decodeInput {s : State} {e : Input} {rest : List Input} {i : Instr} (hq : s.inputs = e :: rest)
    (hi : decodeInput e = some (.ok i)) : step s = exec i (afterInput rest s) := by
  cases e with
  | reset => cases hi
  | tickPort w => simp only [step, hq, takeInput, takeTickWord, Option.some.inj hi]
  | command cmd data => simp only [step, hq, takeInput, takeCommand, Option.some.inj hi]

/-- A run goes on from where its first steps end. -/
theorem run_trans {k m n : Nat} {s u t : State} (h₁ : Host.Core.run Sys2Proof.core m s = .next u)
    (h₂ : Host.Core.run Sys2Proof.core n u = .next t) (hk : k = m + n := by rfl) :
    Host.Core.run Sys2Proof.core k s = .next t := by
  subst hk
  induction m generalizing s with
  | zero => cases h₁; rwa [Nat.zero_add]
  | succ m ih =>
    rw [Nat.succ_add]
    simp only [Host.Core.run] at h₁ ⊢
    split at h₁
    · exact ih h₁
    · cases h₁
    · cases h₁

/-- A run of one step over an input that decodes. -/
theorem run_one_of_exec {s t : State} {e : Input} {rest : List Input} {i : Instr} (hq : s.inputs = e :: rest)
    (hi : decodeInput e = some (.ok i)) (hexec : exec i (afterInput rest s) = .next t) :
    Host.Core.run Sys2Proof.core 1 s = .next t :=
  (run_one s).trans ((step_of_decodeInput hq hi).trans hexec)

/-- The registers that page 0 reports, all but the heads and `rng_seeded`, have the same values in two states (R313). -/
structure SameReport (s t : State) : Prop where
  fsmState : t.fsmState = s.fsmState
  holder : t.holder = s.holder
  locked : t.locked = s.locked
  lockHolder : t.lockHolder = s.lockHolder
  err : t.err = s.err

theorem SameReport.trans {s t u : State} (hst : SameReport s t) (htu : SameReport t u) : SameReport s u :=
  ⟨htu.fsmState.trans hst.fsmState, htu.holder.trans hst.holder, htu.locked.trans hst.locked,
    htu.lockHolder.trans hst.lockHolder, htu.err.trans hst.err⟩

theorem SameReport.holderMatches {s t : State} (h : SameReport s t) (hs : HolderMatches s) : HolderMatches t := by
  rwa [HolderMatches, h.holder, h.fsmState]

theorem SameReport.ind_eq {s t : State} (h : SameReport s t) (d : Approach) : ind t d = ind s d := by
  rw [ind, h.fsmState, h.holder, ind]

theorem SameReport.waiting_eq {s t : State} (h : SameReport s t) : waiting t = waiting s := by
  rw [waiting, h.fsmState, waiting]

theorem SameReport.aspectOf_eq {s t : State} (h : SameReport s t) (hd : Head) : aspectOf t hd = aspectOf s hd :=
  aspectOf_congr h.fsmState h.holder hd

theorem sameReport_afterInput (rest : List Input) (s : State) : SameReport s (afterInput rest s) :=
  ⟨rfl, rfl, rfl, rfl, rfl⟩

/-- A TICK completes, and it writes neither the reported state nor the commanded aspects (R141). -/
theorem exec_tick_sameReport (s : State) :
    ∃ t, exec .tick s = .next t ∧ SameReport s t ∧ t.aspectReg = s.aspectReg :=
  ⟨_, Timebase.exec_tick s, ⟨rfl, rfl, rfl, rfl, rfl⟩, rfl⟩

/-- An ASPECT_SYNC completes; it puts both heads at the projection and does not write the reported state (R212). -/
theorem exec_aspectSync_sameReport (s : State) :
    ∃ t, exec .aspectSync s = .next t ∧ SameReport s t ∧ Projected t :=
  ⟨_, rfl, ⟨rfl, rfl, rfl, rfl, rfl⟩, exec_aspectSync_projected (s := s) rfl⟩

/-- Scheduled ticks all run, and they write neither the reported state nor the commanded aspects. -/
theorem run_ticks {n : Nat} {s : State} {rest : List Input} (hq : s.inputs = tickInputs n ++ rest) :
    ∃ t : State, Host.Core.run Sys2Proof.core n s = .next t ∧ t.inputs = rest ∧ SameReport s t
      ∧ t.aspectReg = s.aspectReg := by
  induction n generalizing s with
  | zero => exact ⟨s, rfl, hq, ⟨rfl, rfl, rfl, rfl, rfl⟩, rfl⟩
  | succ n ih =>
    obtain ⟨u, hexec, hsameu, haspectu⟩ := exec_tick_sameReport (afterInput (tickInputs n ++ rest) s)
    obtain ⟨t, hrun, hrest, hsame, haspect⟩ := ih (exec_inputs hexec)
    exact ⟨t, run_trans (run_one_of_exec hq rfl hexec) hrun (Nat.add_comm ..), hrest,
      (sameReport_afterInput _ s).trans (hsameu.trans hsame), haspect.trans haspectu⟩

/-- A command that completes, and the ticks scheduled after it. -/
theorem run_command_ticks {i : Instr} {n : Nat} {s v : State} {rest : List Input}
    (hi : decodeInput (encode i) = some (.ok i)) (hq : s.inputs = encode i :: (tickInputs n ++ rest))
    (hexec : exec i (afterInput (tickInputs n ++ rest) s) = .next v) :
    ∃ t : State, Host.Core.run Sys2Proof.core (1 + n) s = .next t ∧ t.inputs = rest ∧ SameReport v t
      ∧ t.aspectReg = v.aspectReg := by
  obtain ⟨t, hrun, ht⟩ := run_ticks (exec_inputs hexec)
  exact ⟨t, run_trans (run_one_of_exec hq hi hexec) hrun, ht⟩

/-! ## The POLL pass (R314, R316) -/

/-- FSM_STEP completes wherever the holder matches the state (R283). -/
theorem exec_fsmStep_completes {s : State} (hs : HolderMatches s) : ∃ u, exec .fsmStep s = .next u := by
  cases h : fsmTransition Config.params s with
  | ok u => exact ⟨_, exec_fsmStep_of_ok h⟩
  | error f =>
    obtain ⟨-, hnone, hidle, hreset⟩ := fsmTransition_error Config.params s f h
    exact absurd hnone (hs.mpr (by simp [hidle, hreset]))

/-- A pass up to its FSM_STEP: CFG_WRITE and DB_UPDATE keep the holder and the state, so the FSM_STEP completes. -/
theorem run_poll_to_fsmStep {s : State} {raw : Byte} {data : Word} {n₁ n₂ : Nat} {rest : List Input}
    (hs : HolderMatches s)
    (hq : s.inputs = encode (.cfgWrite data)
      :: (tickInputs n₁ ++ encode (.dbUpdate raw) :: (tickInputs n₂ ++ encode .fsmStep :: rest))) :
    ∃ u : State, Host.Core.run Sys2Proof.core (n₁ + n₂ + 3) s = .next u ∧ u.inputs = rest := by
  have hdec := decodeInput_encode_poll raw data
  obtain ⟨v, hrunv, hqv, hsamev, -⟩ := run_command_ticks (hdec (.cfgWrite data) (by simp [poll])) hq rfl
  have hv : HolderMatches v := hsamev.holderMatches hs
  obtain ⟨w, hrunw, hqw, hsamew, -⟩ := run_command_ticks (hdec (.dbUpdate raw) (by simp [poll])) hqv rfl
  have hw : HolderMatches w :=
    hsamew.holderMatches ((offerSample_sameInterlocking Config.params raw (afterInput _ v)).holderMatches hv)
  obtain ⟨u, hexec⟩ := exec_fsmStep_completes (s := afterInput rest w) hw
  have hrunu := run_trans hrunw (run_one_of_exec hqw rfl hexec)
  exact ⟨u, run_trans hrunv hrunu (by omega), exec_inputs hexec⟩

/-- A pass from its FSM_STEP on: the response is page 0 of a state with FSM_STEP's fields and both heads at the
projection (R212, R316). -/
theorem run_poll_report {u : State} {n₃ n₄ : Nat} {q : List Input}
    (hq : u.inputs = tickInputs n₃ ++ encode .aspectSync :: (tickInputs n₄ ++ encode (.statusRead .status) :: q)) :
    ∃ t : State, Host.Core.run Sys2Proof.core (n₃ + n₄ + 2) u = .next t ∧ t.inputs = q ∧ t.resp = some (statusWord t)
      ∧ SameReport u t ∧ Projected t := by
  obtain ⟨v, hrunv, hqv, hsamev, -⟩ := run_ticks hq
  obtain ⟨v', hsync, hsamev', hproj⟩ :=
    exec_aspectSync_sameReport (afterInput (tickInputs n₄ ++ encode (.statusRead .status) :: q) v)
  obtain ⟨w, hrunw, hqw, hsamew, haspect⟩ := run_command_ticks rfl hqv hsync
  have hprojw : Projected w := fun hd => by rw [haspect, hsamew.aspectOf_eq, hproj hd]
  have hsame : SameReport u w := hsamev.trans ((sameReport_afterInput _ v).trans (hsamev'.trans hsamew))
  have hresponse : Host.Core.run Sys2Proof.core 1 w = .next (respond (statusWord w) (afterInput q w)) :=
    run_one_of_exec hqw rfl rfl
  exact ⟨_, run_trans hrunv (run_trans hrunw hresponse) (by omega), rfl, rfl, hsame.trans ⟨rfl, rfl, rfl, rfl, rfl⟩,
    hprojw⟩

/-- Settles O59: the ticks write no field that page 0 reports of the state FSM_STEP left, and from ASPECT_SYNC on both
heads stand at its projection. -/
theorem pollResponseIsExact : Obligations.PollResponseIsExact := by
  intro s raw data n₁ n₂ n₃ n₄ q hs hq
  simp only [List.append_assoc, List.cons_append] at hq
  obtain ⟨u, hrunu, hqu⟩ := run_poll_to_fsmStep hs hq
  obtain ⟨t, hrunt, hqt, hresp, hsame, hproj⟩ := run_poll_report hqu
  have hrun : Host.Core.run Sys2Proof.core (n₁ + n₂ + n₃ + n₄ + 5) s = .next t :=
    run_trans hrunu hrunt (by omega)
  have ha : t.aspectReg.a = ⟨false, aspectOf u .a⟩ := hsame.aspectOf_eq .a ▸ hproj .a
  have hb : t.aspectReg.b = ⟨false, aspectOf u .b⟩ := hsame.aspectOf_eq .b ▸ hproj .b
  obtain ⟨hstate, hholder, hrecord, haspectA, haspectB, hindA, hindB⟩ := statusWord_fields t
  obtain ⟨hlocked, hflashA, hflashB, hwaiting, herr⟩ := statusWord_bits t
  rw [hsame.fsmState] at hstate
  rw [hsame.holder] at hholder
  rw [hsame.lockHolder] at hrecord
  rw [ha] at haspectA hflashA
  rw [hb] at haspectB hflashB
  rw [hsame.ind_eq] at hindA hindB
  exact ⟨u, t, statusWord t, hrunu, hrun, hqt, hresp, hstate, hholder, hlocked.trans hsame.locked, hrecord, haspectA,
    haspectB, hflashA, hflashB, hindA, hindB, hwaiting.trans hsame.waiting_eq, herr.trans hsame.err⟩

end Sys2Proof.Control

/-! # Exceptions: what IllegalCommand writes, and which steps raise it (60_exceptions R330, R332) -/

namespace Sys2Proof.Exceptions

open Sys2Proof.Machine

/-! ## The operands that a command's own rule rejects (R113) -/

theorem wf_eq_false_iff (i : Instr) : i.wf = false ↔
    (∃ v, i = .tmrArm 3 v) ∨ (∃ d, (d = 0 ∨ d = 3) ∧ i = .lockReq d) ∨ ∃ h f, i = .aspectSet h 3 f := by
  have unnamed : ∀ d : Selector, ((d == 1) || (d == 2)) = false ↔ d = 0 ∨ d = 3 := by decide
  cases i with
  | tmrArm sel value | aspectSet hd aspect flash => simp [Instr.wf]
  | lockReq d => simpa [Instr.wf] using unnamed d
  | nop | tmrRead _ | msRead | dbUpdate _ | dbRead | dwell _ _ | lockClr | fsmStep | cfgWrite _ | aspectSync
    | statusRead _ | pwmRead _ | tick => simp [Instr.wf]

/-- An ill-formed operand raises IllegalCommand with the command's own word (R113, R330). -/
theorem exec_of_wf_eq_false {i : Instr} (hwf : i.wf = false) (s : State) :
    exec i s = .next (raiseIllegal i.word s) := by
  obtain ⟨_, rfl⟩ | ⟨_, rfl | rfl, rfl⟩ | ⟨_, _, rfl⟩ := (wf_eq_false_iff i).mp hwf <;> rfl

/-! ## What decodes is well-formed (R108) -/

/-- A row reads well-formed instructions only. -/
theorem wf_of_read {row : OpRow} (hmem : row ∈ opcodeTable) {cmd : CmdWord} {data : Word} {i : Instr}
    (h : row.read cmd data = some i) : i.wf = true := by
  simp only [opcodeTable, List.mem_cons, List.not_mem_nil, or_false] at hmem
  rcases hmem with rfl | rfl | rfl | rfl | rfl | rfl | rfl | rfl | rfl | rfl | rfl | rfl | rfl | rfl | rfl | rfl
  -- TMR_READ's row asks for a timer's name, and TMR_READ is well-formed for every timer
  case inr.inr.inr.inl => obtain ⟨_, -, rfl⟩ := Option.map_eq_some_iff.mp h; rfl
  all_goals
    simp only [Encoding.allowed_eq_some_iff] at h
    obtain ⟨hwf, rfl⟩ := h
    exact hwf

theorem wf_of_decode_eq_ok {p : Port} {cmd : CmdWord} {data : Word} {i : Instr} (h : decode p cmd data = .ok i) :
    i.wf = true := by
  obtain ⟨row, hmem, hrow⟩ := Encoding.exists_row_of_decode_eq_ok h
  exact wf_of_read hmem ((Encoding.rowDecode_eq_some_iff ..).mp hrow).2

theorem wf_of_decodeInput_eq_ok {e : Input} {i : Instr} (h : decodeInput e = some (.ok i)) : i.wf = true := by
  cases e with
  | reset => cases h
  | tickPort w | command cmd data => exact wf_of_decode_eq_ok (Option.some.inj h)

/-! ## What leaves the error registers -/

/-- The error registers, those of R52 and R53, have the same values in two states. -/
def SameError (s t : State) : Prop := t.err = s.err ∧ t.errCmd = s.errCmd

theorem lockAcquire_sameError (d : Approach) (s : State) : SameError s (lockAcquire d s).2 := by
  obtain ⟨-, -, h⟩ | ⟨-, h⟩ := lockAcquire_cases d s <;> rw [h] <;> exact ⟨rfl, rfl⟩

theorem dwellSeconds_sameError (P : Config.Params) (k : Byte) (r : Bool) (s : State) :
    SameError s (dwellSeconds P k r s).2 := by
  rw [dwellSeconds_state]
  cases r <;> exact ⟨rfl, rfl⟩

theorem offerSample_sameError (P : Config.Params) (raw : Byte) (s : State) : SameError s (offerSample P raw s) := by
  obtain ⟨-, h⟩ | ⟨-, h⟩ := offerSample_cases P raw s <;> rw [h] <;> exact ⟨rfl, rfl⟩

theorem fsmTransition_sameError {P : Config.Params} {s t : State} (h : fsmTransition P s = .ok t) : SameError s t := by
  rw [AspectDriver.fsmTransition_frame h]
  exact ⟨rfl, rfl⟩

/-- A legal command writes neither `err` nor `err_cmd` (R30). -/
theorem exec_sameError {i : Instr} (hwf : i.wf = true) {s t : State} (h : exec i s = .next t) : SameError s t := by
  cases i with
  | tmrArm sel value =>
    obtain ⟨u, hu, -⟩ | ⟨rfl, -⟩ := timerOf_cases sel
    · simp only [exec, execTmrArm, hu] at h
      cases h; exact ⟨rfl, rfl⟩
    · cases hwf
  | lockReq d =>
    obtain ⟨x, hx, -⟩ | ⟨rfl | rfl, -⟩ := approachOf_cases d
    · simp only [exec, execLockReq, hx] at h
      cases h; exact lockAcquire_sameError x s
    all_goals cases hwf
  | aspectSet hd aspect flash =>
    obtain ⟨a, ha, -⟩ | ⟨rfl, -⟩ := aspectOfCode_cases aspect
    · simp only [exec, execAspectSet, ha] at h
      cases h; exact ⟨rfl, rfl⟩
    · cases hwf
  | fsmStep =>
    obtain ⟨u, hu, rfl⟩ := (Dwell.exec_fsmStep_eq_next_iff s t).mp h
    exact (fsmTransition_sameError hu : SameError s u)
  | dbUpdate raw => cases h; exact offerSample_sameError _ raw s
  | dwell cls r => cases h; exact dwellSeconds_sameError _ cls r s
  | nop | tmrRead _ | msRead | dbRead | lockClr | cfgWrite _ | aspectSync | statusRead _ | pwmRead _ | tick =>
    cases h; exact ⟨rfl, rfl⟩

/-- What a step does to the error registers: RESET clears `err`, an illegal command word raises IllegalCommand, and any
other step leaves them (R330, R332, R360). -/
theorem step_error_cases {s t : State} (h : step s = .next t) :
    (s.inputs.head? = some .reset ∧ t.err = false)
      ∨ SameError s t
      ∨ ∃ cmd data rest why, s.inputs = .command cmd data :: rest ∧ decode .command cmd data = .error why
          ∧ t = raiseIllegal cmd (afterInput rest s) := by
  obtain ⟨-, rfl⟩ | ⟨rest, hq, rfl⟩ | ⟨e, rest, i, -, hi, hexec⟩ | hillegal := step_cases s t h
  · exact .inr (.inl ⟨rfl, rfl⟩)
  · exact .inl ⟨by rw [hq]; rfl, rfl⟩
  · exact .inr (.inl (exec_sameError (wf_of_decodeInput_eq_ok hi) hexec : SameError (afterInput rest s) t))
  · exact .inr (.inr hillegal)

/-! ## The first illegal word (R332) -/

/-- Once `err` is set, a further IllegalCommand leaves both error registers. -/
theorem raiseIllegal_sameError {s : State} (hs : s.err = true) (cmd : CmdWord) : SameError s (raiseIllegal cmd s) := by
  simp [SameError, hs]

/-- The first IllegalCommand records its word. -/
theorem raiseIllegal_errCmd_of_first {s : State} (hs : s.err = false) (cmd : CmdWord) :
    (raiseIllegal cmd s).errCmd = cmd := by
  simp [hs]

/-- No step but RESET changes the error registers once `err` is set. -/
theorem step_sameError_of_err {s t : State} (hs : s.err = true) (hreset : s.inputs.head? ≠ some .reset)
    (h : step s = .next t) : SameError s t := by
  obtain ⟨hq, -⟩ | hsame | ⟨cmd, _, rest, _, -, -, rfl⟩ := step_error_cases h
  · exact absurd hq hreset
  · exact hsame
  · exact (raiseIllegal_sameError (s := afterInput rest s) hs cmd : SameError (afterInput rest s) _)

/-- A step that sets `err` takes an illegal command word, and `err_cmd` is that word. -/
theorem step_sets_err {s t : State} (h : step s = .next t) (hs : s.err = false) (ht : t.err = true) :
    ∃ data rest why, s.inputs = .command t.errCmd data :: rest ∧ decode .command t.errCmd data = .error why := by
  obtain ⟨-, hclear⟩ | ⟨herr, -⟩ | ⟨cmd, data, rest, why, hq, hwhy, rfl⟩ := step_error_cases h
  · simp [hclear] at ht
  · simp [herr, hs] at ht
  · rw [raiseIllegal_errCmd_of_first (s := afterInput rest s) hs]
    exact ⟨data, rest, why, hq, hwhy⟩

/-! ## The obligations -/

/-- Settles O10: what decodes is well-formed, so only an illegal word on the command port and RESET write the error
registers, and IllegalCommand writes `err_cmd` only while `err` is clear. -/
theorem errorIsSticky : Obligations.ErrorIsSticky := by
  refine ⟨fun s t hs hreset h => ?sticky, fun s cmd data rest why hs hq hwhy => ?first, fun s t h hs ht => ?rises⟩
  case sticky =>
    obtain ⟨herr, hcmd⟩ := step_sameError_of_err hs hreset h
    exact ⟨herr.trans hs, hcmd⟩
  case first =>
    exact ⟨_, Encoding.step_of_decode_eq_error hq ⟨why, hwhy⟩, rfl,
      raiseIllegal_errCmd_of_first (s := afterInput rest s) hs cmd⟩
  case rises => exact step_sets_err h hs ht

/-- Settles O9: the decoder's rejection and a command's own both end in `raiseIllegal`, whose writes `raiseIllegal_eq`
lists. -/
theorem illegalCommandIsPrecise : Obligations.IllegalCommandIsPrecise := by
  refine ⟨fun s cmd data rest why hq hwhy => ?_, fun s i hwf => ?_⟩
  · rw [Encoding.step_of_decode_eq_error hq ⟨why, hwhy⟩, raiseIllegal_eq]
    rfl
  · rw [exec_of_wf_eq_false hwf, raiseIllegal_eq]

end Sys2Proof.Exceptions

/-! # RESET (70_reset_and_hazards): the step it is, and the values it leaves (R360) -/

namespace Sys2Proof.Reset

open Sys2Proof.Machine

/-- A RESET at the head of the schedule is one step, which always completes (R14, R360). -/
theorem step_of_reset {s : State} {rest : List Input} (hq : s.inputs = .reset :: rest) :
    step s = .next (resetBlock (afterInput rest s)) := by
  simp only [step, hq, takeInput]

/-! ## The obligations -/

/-- Settles O11: the step is `resetBlock`, which takes only the rest of the schedule and the draw counter from the state;
the counter it leaves is the one it found, and every other field is that of `State.reset`. -/
theorem resetWritesEveryRegister : Obligations.ResetWritesEveryRegister := by
  intro s rest hq
  refine ⟨s.drawCount, ?_⟩
  rw [step_of_reset hq, resetBlock_eq, afterInput_inputs, afterInput_drawCount, State.reset]

end Sys2Proof.Reset

/-! # Encoding: the rows of the opcode map do not overlap, and decode and encode agree both ways (30_encoding R108, R117) -/

namespace Sys2Proof.Encoding

open Sys2Proof.Machine

/-! ## Rows that read the same word (R108) -/

/-- Of two rows with the same opcode one is MS_READ's and the other TMR_READ's, unless they are one row. -/
theorem rows_of_same_opcode : ∀ j k : Fin 16,
    fieldOp (opcodeTable[j]'j.isLt).pattern = fieldOp (opcodeTable[k]'k.isLt).pattern →
      j = k ∨ (j = 2 ∧ k = 3) ∨ (j = 3 ∧ k = 2) := by decide

theorem fits_iff (row : OpRow) (cmd : CmdWord) : row.fits cmd = true ↔ cmd &&& row.mask = row.pattern := beq_iff_eq

/-- What MS_READ's row reads, TMR_READ's does not: its selector is 3, which names no timer (R113). -/
theorem timerRow_decode_eq_none {p : Port} {cmd : CmdWord} {data : Word}
    (h : opcodeTable[2].decode p cmd data ≠ none) : opcodeTable[3].decode p cmd data = none := by
  obtain ⟨-, hfits⟩ := rowDecode_ne_none h
  have hfit : cmd &&& BitVec.allOnes 16 = 0x2300 := (fits_iff ..).mp hfits
  obtain rfl : cmd = 0x2300 := BitVec.and_allOnes.symm.trans hfit
  cases p <;> rfl

/-- One row at most reads a word on a port. -/
theorem row_unique {p : Port} {cmd : CmdWord} {data : Word} {r₁ r₂ : OpRow} (h₁ : r₁ ∈ opcodeTable)
    (h₂ : r₂ ∈ opcodeTable) (hread₁ : r₁.decode p cmd data ≠ none) (hread₂ : r₂.decode p cmd data ≠ none) :
    r₁ = r₂ := by
  have hop : fieldOp r₁.pattern = fieldOp r₂.pattern :=
    (fieldOp_of_fits h₁ (rowDecode_ne_none hread₁).2).symm.trans (fieldOp_of_fits h₂ (rowDecode_ne_none hread₂).2)
  obtain ⟨j, hj, rfl⟩ := List.getElem_of_mem h₁
  obtain ⟨k, hk, rfl⟩ := List.getElem_of_mem h₂
  obtain hjk | ⟨hj2, hk3⟩ | ⟨hj3, hk2⟩ := rows_of_same_opcode ⟨j, hj⟩ ⟨k, hk⟩ hop
  · cases hjk; rfl
  · cases hj2; cases hk3; exact absurd (timerRow_decode_eq_none hread₁) hread₂
  · cases hj3; cases hk2; exact absurd (timerRow_decode_eq_none hread₂) hread₁

/-- Settles O3: the opcode tells every two rows apart but MS_READ's and TMR_READ's, and these the timer selector. -/
theorem opcodeRowsDoNotOverlap : Obligations.OpcodeRowsDoNotOverlap := by
  intro p cmd data r₁ h₁ r₂ h₂ hread₁ hread₂
  rw [row_unique h₁ h₂ hread₁ hread₂]

/-! ## The fields of a word, put back at their places (R101, R117) -/

theorem atS_fieldS (cmd : CmdWord) : atS (fieldS cmd) = cmd &&& 0x0300 := by
  ext j hj
  interval_cases j <;> simp [atS, fieldS]

theorem atS0_fieldS0 (cmd : CmdWord) : atS0 (fieldS0 cmd) = cmd &&& 0x0100 := by
  ext j hj
  interval_cases j <;> simp [atS0, fieldS0]

theorem atI_fieldI (cmd : CmdWord) : atI (fieldI cmd) = cmd &&& 0x00FF := by
  ext j hj
  interval_cases j <;> simp [atI, fieldI]

theorem flash_fieldFlash (cmd : CmdWord) : (BitVec.ofBool (fieldFlash cmd)).setWidth 16 <<< 2 = cmd &&& 0x0004 := by
  ext j hj
  interval_cases j <;> simp [fieldFlash]

theorem aspect_fieldAspect (cmd : CmdWord) : (fieldAspect cmd).setWidth 16 = cmd &&& 0x0003 := by
  ext j hj
  interval_cases j <;> simp [fieldAspect]

/-- A word that fits a row is the row's match and the bits its mask leaves out (R108). -/
theorem pattern_or_unmasked {row : OpRow} {cmd : CmdWord} (h : row.fits cmd = true) :
    row.pattern ||| (cmd &&& ~~~row.mask) = cmd := by
  rw [← (fits_iff ..).mp h, ← BitVec.and_or_distrib_left, BitVec.or_not_self, BitVec.and_allOnes]

@[simp] theorem headBit_headOf (b : Bool) : headBit (headOf b) = b := by cases b <;> rfl

@[simp] theorem pageCode_pageOf (s : Selector) : pageCode (pageOf s) = s := by revert s; decide

theorem timerCode_of_timerOf {s : Selector} {t : Timer} (h : timerOf s = some t) : timerCode t = s := by
  obtain ⟨u, hu, hcode⟩ | ⟨-, hnone⟩ := timerOf_cases s
  · cases hu.symm.trans h; exact hcode
  · cases hnone.symm.trans h

/-- The word of the instruction a row reads is the word read: the row's fields are the bits its mask leaves out. -/
theorem word_of_read {row : OpRow} (hmem : row ∈ opcodeTable) {cmd : CmdWord} {data : Word} {i : Instr}
    (hfits : row.fits cmd = true) (h : row.read cmd data = some i) : i.word = cmd := by
  refine Eq.trans ?_ (pattern_or_unmasked hfits)
  simp only [opcodeTable, List.mem_cons, List.not_mem_nil, or_false] at hmem
  rcases hmem with rfl | rfl | rfl | rfl | rfl | rfl | rfl | rfl | rfl | rfl | rfl | rfl | rfl | rfl | rfl | rfl
  all_goals simp only [allowed_eq_some_iff, Option.map_eq_some_iff] at h
  case inr.inr.inr.inl =>
    obtain ⟨t, ht, rfl⟩ := h
    simp only [Instr.word, timerCode_of_timerOf ht, atS_fieldS]
    rfl
  all_goals
    obtain ⟨-, rfl⟩ := h
    simp [Instr.word, atS_fieldS, atS0_fieldS0, atI_fieldI, flash_fieldFlash, aspect_fieldAspect,
      BitVec.or_assoc, ← BitVec.and_or_distrib_left]

/-- Settles O2: the row that reads a word puts every bit of it into the instruction's word, port and well-formedness
being those of the row. -/
theorem decodedWordIsItsEncoding : Obligations.DecodedWordIsItsEncoding := by
  intro p cmd data i h
  obtain ⟨row, hmem, hrow⟩ := exists_row_of_decode_eq_ok h
  obtain ⟨⟨-, hfits⟩, hread⟩ := (rowDecode_eq_some_iff ..).mp hrow
  exact ⟨word_of_read hmem hfits hread, port_of_decode_eq_ok h, Exceptions.wf_of_decode_eq_ok h⟩

/-! ## Reading back an instruction's own word (R109, R117) -/

/-- What any row reads is what the decoder answers, whatever the order of the map. -/
theorem decode_eq_ok_of_row {p : Port} {cmd : CmdWord} {data : Word} {i : Instr} {row : OpRow} (hmem : row ∈ opcodeTable)
    (h : row.decode p cmd data = some i) : decode p cmd data = .ok i :=
  decode_eq_ok_of_only_row hmem h fun _ hmem' hread => row_unique hmem' hmem hread (by simp [h])

/-- DB_UPDATE's row reads back the sample of DB_UPDATE's word. -/
theorem dbUpdateRow_decode (raw : Byte) (data : Word) :
    opcodeTable[4].decode .command (Instr.dbUpdate raw).word data = some (.dbUpdate raw) := by
  have hfits : ∀ raw, opcodeTable[4].fits (Instr.dbUpdate raw).word = true := by decide
  have hraw : ∀ raw, fieldI (Instr.dbUpdate raw).word = raw := by decide
  exact (rowDecode_eq_some_iff ..).mpr ⟨⟨rfl, hfits raw⟩, congrArg (fun x => some (Instr.dbUpdate x)) (hraw raw)⟩

/-- TMR_ARM's row reads back the timer's code, and the value from the data word. -/
theorem tmrArmRow_decode (u : Timer) (value : Word) :
    opcodeTable[1].decode .command (0x1000 ||| atS (timerCode u)) value = some (.tmrArm (timerCode u) value) := by
  cases u <;> rfl

/-- CFG_WRITE's row reads its operand from the data word. -/
theorem cfgWriteRow_decode (data : Word) : opcodeTable[11].decode .command 0xB000 data = some (.cfgWrite data) := rfl

/-- Every well-formed instruction is read back by a row of its port: each operand is one of the names its field spells. -/
theorem exists_row_reading_back {i : Instr} (hwf : i.wf = true) :
    ∃ row ∈ opcodeTable, row.decode i.port i.word i.dataWord = some i := by
  have row (j : Fin 16) (h : (opcodeTable[j]'j.isLt).decode i.port i.word i.dataWord = some i) :
      ∃ row ∈ opcodeTable, row.decode i.port i.word i.dataWord = some i := ⟨_, List.getElem_mem j.isLt, h⟩
  cases i with
  | tmrArm sel value =>
    obtain ⟨u, -, rfl⟩ | ⟨rfl, -⟩ := timerOf_cases sel
    · exact row 1 (tmrArmRow_decode u value)
    · cases hwf
  | lockReq sel =>
    obtain ⟨d, -, rfl⟩ | ⟨rfl | rfl, -⟩ := approachOf_cases sel
    · exact row 7 (by cases d <;> rfl)
    all_goals cases hwf
  | aspectSet h code flash =>
    obtain ⟨a, -, rfl⟩ | ⟨rfl, -⟩ := aspectOfCode_cases code
    · exact row 9 (by cases h <;> cases flash <;> cases a <;> rfl)
    · cases hwf
  | nop => exact row 0 rfl
  | msRead => exact row 2 rfl
  | tmrRead t => exact row 3 (by cases t <;> rfl)
  | dbUpdate raw => exact row 4 (dbUpdateRow_decode raw 0)
  | dbRead => exact row 5 rfl
  | dwell k r => exact row 6 (dwellRow_decode k r 0)
  | lockClr => exact row 8 rfl
  | fsmStep => exact row 10 rfl
  | cfgWrite data => exact row 11 (cfgWriteRow_decode data)
  | aspectSync => exact row 12 rfl
  | statusRead p => exact row 13 (by cases p <;> rfl)
  | pwmRead h => exact row 14 (by cases h <;> rfl)
  | tick => exact row 15 rfl

theorem decodeInput_encode_eq (i : Instr) : decodeInput (encode i) = some (decode i.port i.word i.dataWord) := by
  cases i <;> rfl

/-- Settles O1: a row of the instruction's port reads it back, and no other row reads that word. -/
theorem decodeOfEncode : Obligations.DecodeOfEncode := by
  intro i hwf
  obtain ⟨row, hmem, hrow⟩ := exists_row_reading_back hwf
  rw [decodeInput_encode_eq, decode_eq_ok_of_row hmem hrow]

/-- Settles O4: each word, written out, is read by its row. -/
theorem writtenWordsDecode : Obligations.WrittenWordsDecode :=
  ⟨rfl, rfl, rfl, rfl, rfl, rfl, rfl, rfl, rfl, rfl, rfl, rfl, rfl, rfl, rfl, rfl⟩

end Sys2Proof.Encoding

/-! # Steps (20_memory R83, 60_exceptions R331, R345): which step each input takes, and that every step completes -/

namespace Sys2Proof.Steps

open Sys2Proof.Machine

/-- Every instruction completes where the holder matches the state, ill-formed operands included: FSM_STEP alone can
fault (log 6). -/
theorem exec_completes (i : Instr) {s : State} (hs : HolderMatches s) : ∃ t, exec i s = .next t := by
  cases i with
  | fsmStep => exact Control.exec_fsmStep_completes hs
  | tmrArm sel value => simp only [exec, execTmrArm]; split <;> exact ⟨_, rfl⟩
  | lockReq sel => simp only [exec, execLockReq]; split <;> exact ⟨_, rfl⟩
  | aspectSet h code flash => simp only [exec, execAspectSet]; split <;> exact ⟨_, rfl⟩
  | nop | tmrRead _ | msRead | dbUpdate _ | dbRead | dwell _ _ | lockClr | cfgWrite _ | aspectSync | statusRead _
    | pwmRead _ | tick => exact ⟨_, rfl⟩

/-- With an empty schedule a step changes nothing (R345; log 1). -/
theorem step_of_nil {s : State} (hq : s.inputs = []) : step s = .next s := by
  simp only [step, hq]

/-- A tick-port word other than 0xF000 decodes to nothing (R111). -/
theorem decode_tick_eq_error {w : CmdWord} (hw : w ≠ 0xF000) : ∃ why, decode .tick w 0 = .error why := by
  cases h : decode .tick w 0 with
  | error why => exact ⟨why, rfl⟩
  | ok i => exact absurd ((Encoding.decode_tick_eq_ok_iff w 0 i).mp h).1 hw

/-- Settles O7: the step hands the decoded instruction to `exec`, on the state without the word. -/
theorem stepRunsDecoded : Obligations.StepRunsDecoded := by
  intro s e rest i hq hi
  exact Control.step_of_decodeInput hq hi

/-- Settles O8: the tick port's one word is 0xF000. -/
theorem stepOutsideTheSpecsInputs : Obligations.StepOutsideTheSpecsInputs := by
  refine ⟨fun s => step_of_nil, fun s w rest hw hq => ?_⟩
  obtain ⟨why, hwhy⟩ := decode_tick_eq_error hw
  simp only [step, hq, takeInput, takeTickWord, hwhy]

/-- Settles O13: every input but another tick-port word is RESET, an illegal command word, or an instruction that
completes. -/
theorem everyStepCompletes : Obligations.EveryStepCompletes := by
  intro s hs htick
  cases hq : s.inputs with
  | nil => exact ⟨s, step_of_nil hq⟩
  | cons e rest =>
    have hrest : HolderMatches (afterInput rest s) := hs
    cases e with
    | reset => exact ⟨_, Reset.step_of_reset hq⟩
    | tickPort w =>
      obtain rfl : w = 0xF000 := htick w (by rw [hq]; rfl)
      exact ⟨_, Control.step_of_decodeInput hq rfl⟩
    | command cmd data =>
      cases hdec : decode .command cmd data with
      | error why => exact ⟨_, Encoding.step_of_decode_eq_error hq ⟨why, hdec⟩⟩
      | ok i =>
        obtain ⟨t, ht⟩ := exec_completes i hrest
        exact ⟨t, (Control.step_of_decodeInput hq (congrArg some hdec)).trans ht⟩

/-- Settles O12: a RESET discards what came with it, and each other arrival adds its own step in its place. -/
theorem arrivalOrder : Obligations.ArrivalOrder := by
  intro tick late command cmd data
  refine ⟨rfl, rfl, rfl, rfl, rfl, ?onlyTicks⟩
  cases tick <;> cases late <;> rfl

end Sys2Proof.Steps

/-! # The projected aspects, step by step (44_interlocking R286, R289), and the invariants at RESET (R360) -/

namespace Sys2Proof.Interlocking

open Sys2Proof.Machine

/-- Heads at the projection in a state of a run without direct writes: what O60 asks of the state after a step. -/
theorem fsmRun_projected_granted {s t : State} (hs : FsmRun s) (h : step s = .next t) (hproj : Projected t) :
    FsmRun t ∧ Projected t ∧ GreenOnlyGranted t := by
  have hrun : FsmRun t := step_fsmRun hs h
  have hlock : LockMatches t := by obtain ⟨-, hlock, -⟩ := hrun; exact hlock
  exact ⟨hrun, hproj, greenOnlyGranted_of_projected hlock hproj⟩

/-- Settles O60: no step but FSM_STEP writes what the projection reads, ASPECT_SYNC writes the heads from it, and the lock
matches the granting states. -/
theorem projectionKeptBetweenTransitions : Obligations.ProjectionKeptBetweenTransitions := by
  intro s t hs h
  have hq : FsmOnly s.inputs := by obtain ⟨-, -, -, -, hq⟩ := hs; exact hq
  exact ⟨fun hproj hfsm => fsmRun_projected_granted hs h (step_projected hq hfsm hproj h),
    fun hsync => fsmRun_projected_granted hs h (step_aspectSync_projected hsync h)⟩

/-- Settles O54: the reset values meet each invariant by evaluation, and `params_wf` is R11. -/
theorem resetMeetsTheInvariants : Obligations.ResetMeetsTheInvariants := by
  have hholder : HolderMatches State.reset := by decide
  have hhistory : HistoryMatches State.reset := by decide
  exact ⟨params_wf, ⟨hholder, rfl, hhistory, fun _ => rfl, fun _ => rfl⟩, resetBlock_projected State.reset,
    fun _ => fsmRun_reset⟩

end Sys2Proof.Interlocking

/-! # The debounce filter along steps and runs (41_debounce R171, R174 to R176) -/

namespace Sys2Proof.Debounce

open Sys2Proof.Machine

/-! ## One update (R171) -/

/-- DB_UPDATE discards a sample that comes within ten ticks of the last accepted one. -/
theorem exec_dbUpdate_discards {s : State} (h : (s.ms - s.dbLast).toNat < 10) (raw : Byte) :
    exec (.dbUpdate raw) s = .next (respond 0 s) := by
  obtain ⟨hdue, -⟩ | ⟨-, hsample⟩ := offerSample_cases Config.params raw s
  · rw [params_dbInterval] at hdue; omega
  · rw [exec_dbUpdate, hsample]

/-- DB_UPDATE accepts a sample that comes ten ticks or more after the last accepted one. -/
theorem exec_dbUpdate_accepts {s : State} (h : 10 ≤ (s.ms - s.dbLast).toNat) (raw : Byte) :
    exec (.dbUpdate raw) s = .next (respond 0 (acceptSample raw s)) := by
  obtain ⟨-, hsample⟩ | ⟨hearly, -⟩ := offerSample_cases Config.params raw s
  · rw [exec_dbUpdate, hsample]
  · rw [params_dbInterval] at hearly; omega

/-- Settles O19: the throttle decides between the state found and `acceptSample`, which shifts and decides every lane. -/
theorem dbUpdateThrottlesAndShifts : Obligations.DbUpdateThrottlesAndShifts := by
  intro s raw
  refine ⟨fun hearly => exec_dbUpdate_discards hearly raw, fun hdue => ?_⟩
  refine ⟨(acceptSample raw s).dbHist, (acceptSample raw s).dbStable, exec_dbUpdate_accepts hdue raw, fun b => ?_⟩
  rw [acceptSample_dbHist, ← shiftIn_eq_or]
  exact ⟨rfl, acceptSample_dbStable raw s b⟩

/-! ## Eight equal samples (R174) -/

/-- The `m` most recent samples of a history are all `v`. -/
def Recent (m : Nat) (v : Bool) (hist : Byte) : Prop := ∀ j < m, hist.getLsbD j = v

theorem getLsbD_shiftIn (hist : Byte) (sample : Bool) (j : Nat) (hj : j < 8) :
    (shiftIn hist sample).getLsbD j = if j = 0 then sample else hist.getLsbD (j - 1) := by
  cases j with
  | zero => simp [shiftIn]
  | succ j => simp [shiftIn, hj, -BitVec.getLsbD_eq_getElem]

/-- A sample equal to the `m` most recent ones makes them one more, up to the eight that a history holds. -/
theorem Recent.shiftIn {m : Nat} {v : Bool} {hist : Byte} (h : Recent m v hist) :
    Recent (min (m + 1) 8) v (Machine.shiftIn hist v) := by
  intro j hj
  rw [getLsbD_shiftIn hist v j (by omega)]
  split
  · rfl
  · exact h (j - 1) (by omega)

/-- The history of eight samples of one value. -/
def fullHistory (v : Bool) : Byte := if v then 0xFF else 0x00

theorem getLsbD_fullHistory (v : Bool) : ∀ j < 8, (fullHistory v).getLsbD j = v := by cases v <;> decide

theorem eq_fullHistory_of_recent {v : Bool} {hist : Byte} (h : Recent 8 v hist) : hist = fullHistory v := by
  refine BitVec.eq_of_getLsbD_eq fun j hj => ?_
  rw [h j hj, getLsbD_fullHistory v j hj]

@[simp] theorem stableAfter_fullHistory (v old : Bool) : stableAfter (fullHistory v) old = v := by cases v <;> rfl

/-- A stable bit changes on a history of eight samples of its new value, and on no other. -/
theorem eq_fullHistory_of_stableAfter_ne {hist : Byte} {old : Bool} (h : stableAfter hist old ≠ old) :
    hist = fullHistory (stableAfter hist old) := by
  unfold stableAfter at h ⊢
  split_ifs at h ⊢ with hones hzeros
  · exact hones
  · exact hzeros
  · exact absurd rfl h

/-- A lane after a run of accepted equal samples: its history holds as many of them as there were, up to eight. -/
theorem recent_of_accepted {n : Nat} {st : Nat → State} {b : Fin 8} {v : Bool}
    (hrun : ∀ k < n, (st (k + 1)).dbHist[b] = shiftIn (st k).dbHist[b] v) : Recent (min n 8) v (st n).dbHist[b] := by
  induction n with
  | zero => intro j hj; omega
  | succ n ih =>
    rw [hrun n (Nat.lt_succ_self n)]
    have hshift := (ih fun k hk => hrun k (Nat.lt_succ_of_lt hk)).shiftIn
    rwa [show min (min n 8 + 1) 8 = min (n + 1) 8 by omega] at hshift

/-- Settles O21: each accepted sample shifts its value in, and the eighth and every later one find the history full. -/
theorem stableInputReachesOutput : Obligations.StableInputReachesOutput := by
  intro n st before raw b v hn hrun
  have hlane (k : Nat) (hk : k < n) : (st (k + 1)).dbHist[b] = shiftIn (st k).dbHist[b] v
      ∧ (st (k + 1)).dbStable.getLsbD b = stableAfter (st (k + 1)).dbHist[b] ((st k).dbStable.getLsbD b) := by
    obtain ⟨hhist, hstable, hdue, hraw, hexec⟩ := hrun k hk
    have hnext := Host.Outcome.next.inj ((exec_dbUpdate_accepts hdue (raw k)).symm.trans hexec)
    rw [← hnext, respond_dbHist, respond_dbStable, acceptSample_dbHist, acceptSample_dbStable, hhist, hstable, hraw]
    exact ⟨rfl, rfl⟩
  obtain ⟨m, rfl⟩ : ∃ m, n = m + 1 := ⟨n - 1, by omega⟩
  have hrecent := recent_of_accepted (n := m + 1) fun k hk => (hlane k hk).1
  rw [Nat.min_eq_right hn] at hrecent
  rw [(hlane m (Nat.lt_succ_self m)).2, eq_fullHistory_of_recent hrecent, stableAfter_fullHistory]

/-! ## Who writes the lanes (R30, R175, R176) -/

/-- The debounce registers, those of R34 to R36, have the same values in two states. -/
def SameDebounce (s t : State) : Prop := t.dbHist = s.dbHist ∧ t.dbStable = s.dbStable ∧ t.dbLast = s.dbLast

theorem lockAcquire_sameDebounce (d : Approach) (s : State) : SameDebounce s (lockAcquire d s).2 := by
  obtain ⟨-, -, h⟩ | ⟨-, h⟩ := lockAcquire_cases d s <;> rw [h] <;> exact ⟨rfl, rfl, rfl⟩

theorem dwellSeconds_sameDebounce (P : Config.Params) (k : Byte) (r : Bool) (s : State) :
    SameDebounce s (dwellSeconds P k r s).2 := by
  rw [dwellSeconds_state]
  cases r <;> exact ⟨rfl, rfl, rfl⟩

theorem fsmTransition_sameDebounce {P : Config.Params} {s t : State} (h : fsmTransition P s = .ok t) :
    SameDebounce s t := by
  rw [AspectDriver.fsmTransition_frame h]
  exact ⟨rfl, rfl, rfl⟩

/-- No instruction but DB_UPDATE writes a debounce register (R30). -/
theorem exec_sameDebounce {i : Instr} (hupdate : ∀ raw, i ≠ .dbUpdate raw) {s t : State} (h : exec i s = .next t) :
    SameDebounce s t := by
  cases i with
  | dbUpdate raw => exact absurd rfl (hupdate raw)
  | fsmStep =>
    obtain ⟨u, hu, rfl⟩ := (Dwell.exec_fsmStep_eq_next_iff s t).mp h
    exact (fsmTransition_sameDebounce hu : SameDebounce s u)
  | tmrArm sel value =>
    simp only [exec, execTmrArm] at h
    split at h <;> cases h <;> exact ⟨rfl, rfl, rfl⟩
  | lockReq d =>
    simp only [exec, execLockReq] at h
    split at h <;> cases h
    · exact lockAcquire_sameDebounce _ s
    · exact ⟨rfl, rfl, rfl⟩
  | aspectSet hd aspect flash =>
    simp only [exec, execAspectSet] at h
    split at h <;> cases h <;> exact ⟨rfl, rfl, rfl⟩
  | dwell cls r => cases h; exact dwellSeconds_sameDebounce _ cls r s
  | nop | tmrRead _ | msRead | dbRead | lockClr | cfgWrite _ | aspectSync | statusRead _ | pwmRead _ | tick =>
    cases h; exact ⟨rfl, rfl, rfl⟩

/-- What a step does to the debounce registers: it resets them, keeps them, or accepts a sample ten ticks or more after
the last one. -/
theorem step_debounce_cases {s t : State} (h : step s = .next t) :
    (s.inputs.head? = some .reset ∧ SameDebounce State.reset t)
      ∨ SameDebounce s t
      ∨ (10 ≤ (s.ms - s.dbLast).toNat ∧ ∃ raw, SameDebounce (acceptSample raw s) t) := by
  obtain ⟨-, rfl⟩ | ⟨rest, hq, rfl⟩ | ⟨e, rest, i, -, -, hexec⟩ | ⟨_, _, rest, _, -, -, rfl⟩ := step_cases s t h
  · exact .inr (.inl ⟨rfl, rfl, rfl⟩)
  · exact .inl ⟨by rw [hq]; rfl, rfl, rfl, rfl⟩
  · by_cases hupdate : ∃ raw, i = .dbUpdate raw
    · obtain ⟨raw, rfl⟩ := hupdate
      obtain hearly | hdue := lt_or_ge (s.ms - s.dbLast).toNat 10
      · cases (exec_dbUpdate_discards (s := afterInput rest s) hearly raw).symm.trans hexec
        exact .inr (.inl ⟨rfl, rfl, rfl⟩)
      · cases (exec_dbUpdate_accepts (s := afterInput rest s) hdue raw).symm.trans hexec
        exact .inr (.inr ⟨hdue, raw, rfl, rfl, rfl⟩)
    · exact .inr (.inl (exec_sameDebounce (s := afterInput rest s) (fun raw hi => hupdate ⟨raw, hi⟩) hexec))
  · exact .inr (.inl ⟨rfl, rfl, rfl⟩)

/-- Settles O22: of all steps but RESET only an accepted sample writes a stable bit, and it changes the bit on a full
history only. -/
theorem stableChangesOnlyOnEightEqual : Obligations.StableChangesOnlyOnEightEqual := by
  intro s t b hreset h hne
  obtain ⟨hq, -⟩ | ⟨-, hstable, -⟩ | ⟨hdue, raw, hhist, hstable, hlast⟩ := step_debounce_cases h
  · exact absurd hq hreset
  · exact absurd (by rw [hstable]) hne
  · rw [hstable, acceptSample_dbStable] at hne ⊢
    rw [hhist, acceptSample_dbHist]
    exact ⟨hdue, hlast, eq_fullHistory_of_stableAfter_ne hne⟩

/-- An accepted sample leaves every full history with its own stable bit, because it decides the bit from it (R174). -/
theorem acceptSample_historyMatches (raw : Byte) (s : State) : HistoryMatches (acceptSample raw s) := by
  intro b
  rw [acceptSample_dbStable, acceptSample_dbHist]
  exact ⟨fun hones => by rw [hones]; rfl, fun hzeros => by rw [hzeros]; rfl⟩

theorem SameDebounce.historyMatches {s t : State} (h : SameDebounce s t) (hs : HistoryMatches s) :
    HistoryMatches t := by
  obtain ⟨hhist, hstable, -⟩ := h
  rwa [HistoryMatches, hhist, hstable]

theorem step_historyMatches {s t : State} (hs : HistoryMatches s) (h : step s = .next t) : HistoryMatches t := by
  obtain ⟨-, hsame⟩ | hsame | ⟨-, raw, hsame⟩ := step_debounce_cases h
  · exact hsame.historyMatches (by decide)
  · exact hsame.historyMatches hs
  · exact hsame.historyMatches (acceptSample_historyMatches raw s)

end Sys2Proof.Debounce

/-! # Who writes each register, and the records that every step keeps (10_state R30, R52, R53) -/

namespace Sys2Proof.Registers

open Sys2Proof.Machine

/-- Only TICK, TMR_ARM and FSM_STEP write the timers. -/
theorem exec_tmr {i : Instr} (htick : i ≠ .tick) (harm : ∀ sel v, i ≠ .tmrArm sel v) (hfsm : i ≠ .fsmStep)
    {s t : State} (h : exec i s = .next t) : t.tmr = s.tmr := by
  obtain ⟨u, heffect, hsame⟩ := Interlocking.exec_effect h
  rw [hsame.tmr]
  cases heffect with
  | transition => exact absurd rfl hfsm
  | arm sel value => exact absurd rfl (harm sel value)
  | tick => exact absurd rfl htick
  | grant | release | keeps => rfl

/-- Only FSM_STEP, LOCK_REQ and LOCK_CLR write the lock. -/
theorem exec_lock {i : Instr} (hfsm : i ≠ .fsmStep) (hreq : ∀ d, i ≠ .lockReq d) (hclr : i ≠ .lockClr) {s t : State}
    (h : exec i s = .next t) : t.locked = s.locked ∧ t.lockHolder = s.lockHolder := by
  obtain ⟨u, heffect, hsame⟩ := Interlocking.exec_effect h
  rw [hsame.locked, hsame.lockHolder]
  cases heffect with
  | transition => exact absurd rfl hfsm
  | grant sel => exact absurd rfl (hreq sel)
  | release => exact absurd rfl hclr
  | arm | tick | keeps => exact ⟨rfl, rfl⟩

/-- Only TICK writes `ms`. -/
theorem exec_ms {i : Instr} (htick : i ≠ .tick) {s t : State} (h : exec i s = .next t) : t.ms = s.ms := by
  have hport : i.port = .command := by
    cases hp : i.port with
    | command => rfl
    | tick => exact absurd ((Encoding.port_eq_tick_iff i).mp hp) htick
  obtain ⟨hms, -, -⟩ := Encoding.exec_sameTime hport h
  exact hms

/-- Settles O53: each group of registers keeps its values under every instruction that R30 does not name for it. -/
theorem registersHaveTheirWriters : Obligations.RegistersHaveTheirWriters := by
  intro i s t hwf h
  obtain ⟨hlive, haspect, hcfg⟩ := AspectDriver.exec_keepsUnowned h
  obtain ⟨herr, herrCmd⟩ := Exceptions.exec_sameError hwf h
  refine ⟨fun hi => exec_ms hi h, fun htick harm hfsm => exec_tmr htick harm hfsm h,
    fun hupdate => Debounce.exec_sameDebounce hupdate h, fun hdwell hfsm => Dwell.exec_sameSeed hdwell hfsm h,
    fun hfsm => Interlocking.exec_sameMachine hfsm h, fun hfsm hreq hclr => exec_lock hfsm hreq hclr h, haspect,
    fun hi => ?driver, hcfg, herr, herrCmd, Interlocking.exec_inputs h⟩
  case driver =>
    obtain ⟨hlevel, htarget, hslice, hframe, hphase, hline⟩ := (AspectDriver.live_eq_iff s t).mp (hlive hi)
    exact ⟨htarget, hlevel, hslice, hframe, hphase, hline⟩

/-! ## The error record and the seed record -/

/-- IllegalCommand sets `err` and RESET clears `err_cmd`, so an unset `err` comes with the reset `err_cmd` (R52, R53). -/
theorem step_errRecord {s t : State} (hs : ErrRecord s) (h : step s = .next t) : ErrRecord t := by
  obtain ⟨-, rfl⟩ | ⟨_, -, rfl⟩ | ⟨_, rest, i, -, hi, hexec⟩ | ⟨_, _, _, _, -, -, rfl⟩ := step_cases s t h
  · exact hs
  · exact fun _ => rfl
  · obtain ⟨herr, hcmd⟩ := Exceptions.exec_sameError (Exceptions.wf_of_decodeInput_eq_ok hi) hexec
    rwa [ErrRecord, herr, hcmd]
  · exact fun hclear => by cases hclear

/-- A dwell computation seeds the source or leaves it as it is. -/
theorem dwellSeconds_seeded_or_same (P : Config.Params) (k : Byte) (r : Bool) (s : State) :
    (dwellSeconds P k r s).2.rngSeeded = true ∨ Dwell.SameSeed s (dwellSeconds P k r s).2 := by
  cases r with
  | false => exact .inr (Dwell.dwellSeconds_sameSeed P k (.inl rfl))
  | true => exact .inl (by rw [dwellSeconds_state]; rfl)

/-- An instruction leaves the source seeded or leaves it as it is: besides DWELL only the pick of FSM_STEP computes a
dwell. -/
theorem exec_seeded_or_same {i : Instr} {s t : State} (h : exec i s = .next t) :
    t.rngSeeded = true ∨ Dwell.SameSeed s t := by
  by_cases hfsm : i = .fsmStep
  · subst hfsm
    obtain ⟨u, hu, rfl⟩ := (Dwell.exec_fsmStep_eq_next_iff s t).mp h
    cases Interlocking.transition_of_fsmTransition hu with
    | pick d =>
      rw [pickApproach_eq]
      exact dwellSeconds_seeded_or_same Config.params s.cfg.dwellClass s.cfg.randomized s
    | stay | request | grant | occupy | wait | resume | lockout | clearing | release | restart =>
      exact .inr ⟨rfl, rfl⟩
  · by_cases hdwell : ∃ k r, i = .dwell k r
    · obtain ⟨k, r, rfl⟩ := hdwell
      cases (Dwell.exec_dwell k r s).symm.trans h
      exact dwellSeconds_seeded_or_same Config.params k r s
    · exact .inr (Dwell.exec_sameSeed (fun k r hi => hdwell ⟨k, r, hi⟩) hfsm h)

/-- RESET clears the seed, and nothing else writes it without setting its flag (I22). -/
theorem step_seedRecord {s t : State} (hs : SeedRecord s) (h : step s = .next t) : SeedRecord t := by
  obtain ⟨-, rfl⟩ | ⟨_, -, rfl⟩ | ⟨_, rest, i, -, -, hexec⟩ | ⟨_, _, _, _, -, -, rfl⟩ := step_cases s t h
  · exact hs
  · exact fun _ => rfl
  · obtain hseeded | ⟨hflag, hseed⟩ := exec_seeded_or_same hexec
    · exact fun hclear => by cases hseeded.symm.trans hclear
    · rwa [SeedRecord, hflag, hseed]
  · exact hs

/-- Settles O56: each record invariant is kept by RESET, by IllegalCommand and by every instruction. -/
theorem recordInvariantsKept : Obligations.RecordInvariantsKept := by
  intro s t h
  exact ⟨fun hs => Debounce.step_historyMatches hs h, fun hs => step_errRecord hs h, fun hs => step_seedRecord hs h⟩

end Sys2Proof.Registers

/-! # Runs of ticks (40_timebase_timers R141 to R148, 43_aspect_driver R216 to R229) -/

namespace Sys2Proof.AspectDriver

open Sys2Proof.Machine

/-! ## One TICK's boundaries (R219, R220) -/

theorem frameEnd_iff (s : State) : frameEnd Config.params s = true ↔ s.slice = 31 := by
  simp [frameEnd, ← BitVec.toNat_inj]

theorem cycleEnd_iff (s : State) : cycleEnd Config.params s = true ↔ s.slice = 31 ∧ s.frame = 31 := by
  simp [cycleEnd, frameEnd_iff, ← BitVec.toNat_inj]

/-- The targets of a commanded aspect, dark in the dark phase of a flashing one (R214). -/
theorem targetLevels_eq (r : AspectReg) (phase : Bool) :
    targetLevels Config.params r phase =
      if r.flash = true ∧ phase = true then ⟨0, 0⟩
      else match r.aspect with
        | .off => ⟨0, 0⟩
        | .red => ⟨31, 0⟩
        | .green => ⟨0, 31⟩ := by
  simp only [targetLevels, Bool.and_eq_true]
  rfl

/-- Settles O28: `tick_inside`, `tick_frame_end` and `tick_cycle_end` say what each kind of TICK writes, and slice and
frame say which kind it is. -/
theorem tickSequencesFramesAndCycles : Obligations.TickSequencesFramesAndCycles := by
  intro s
  refine ⟨tickBlock Config.params s, Timebase.exec_tick s, incMod_32 s.slice, fun hslice => ?inside, fun hslice => ?frame,
    fun hslice hframe => ?inCycle, fun hslice hframe => ?cycle⟩
  case inside => exact tick_inside Config.params s (by simpa using mt (frameEnd_iff s).mp hslice)
  case frame =>
    have hend := (frameEnd_iff s).mpr hslice
    exact ⟨by simp [tickFrame, hend], by simp [tickLevel, hend]⟩
  case inCycle =>
    obtain ⟨-, hphase, htarget, -⟩ := tick_frame_end Config.params s ((frameEnd_iff s).mpr hslice)
      (Bool.eq_false_iff.mpr fun hc => hframe ((cycleEnd_iff s).mp hc).2)
    exact ⟨hphase, htarget⟩
  case cycle =>
    obtain ⟨-, hphase, htarget, -⟩ := tick_cycle_end Config.params s ((cycleEnd_iff s).mpr ⟨hslice, hframe⟩)
    refine ⟨hphase, fun h => ?_⟩
    have hnew : atHead (tickTarget Config.params s) h
        = targetLevels Config.params (atHead s.aspectReg h) (tickPhase Config.params s) := by
      rw [htarget, hphase, atHead_forHeads]
    exact hnew.trans (targetLevels_eq ..)

/-- Settles O27: at slice 0 the duties are the levels, or their complements in 32 when the polarity is inverted. -/
theorem frameEventsAtFirstSlice : Obligations.FrameEventsAtFirstSlice := by
  intro s
  refine ⟨tickBlock Config.params s, Timebase.exec_tick s, fun hslice => if_neg hslice, fun hslice hinvert => ?_,
    fun hslice hinvert => ?_⟩
  all_goals
    rw [tickBlock_frames, tickFrames, if_pos hslice]
    simp only [frameEvent, duty, hinvert, params_pwmSlices]
    rfl

/-- One channel's fade step as a number (R217, R218). -/
theorem fadeLevel_toNat (sl : Bool) (old other goal : Level) :
    (fadeLevel sl old other goal).toNat =
      if goal.toNat < old.toNat then old.toNat - 1
      else if old.toNat < goal.toNat ∧ (sl = false ∨ other = 0) then old.toNat + 1 else old.toNat := by
  obtain ⟨hlt, h⟩ | ⟨hlt, hrise, h⟩ | ⟨rfl | ⟨hlt, hsl, hother⟩, h⟩ := fadeLevel_cases sl old other goal
  · rw [h, if_pos (BitVec.lt_def.mp hlt)]; bv_omega
  · rw [h, if_neg (by bv_omega), if_pos ⟨BitVec.lt_def.mp hlt, hrise⟩]; bv_omega
  · rw [h, if_neg (lt_irrefl _), if_neg fun hrise => lt_irrefl _ hrise.1]
  · have hwaits : ¬(sl = false ∨ other = 0) := not_or.mpr ⟨by simp [hsl], hother⟩
    rw [h, if_neg (by bv_omega), if_neg fun hrise => hwaits hrise.2]

/-- Settles O29: a head's fade step is the step of each of its channels, beside the other's old level. -/
theorem fadeStepRule : Obligations.FadeStepRule := by
  intro searchlight old goal h
  rw [fadeStep, atHead_forHeads]
  exact ⟨fadeLevel_toNat .., fadeLevel_toNat ..⟩

/-! ## Scheduled ticks -/

/-- The state after `k` ticks. -/
def ticked (k : Nat) (s : State) : State := (tickBlock Config.params)^[k] s

theorem ticked_succ (k : Nat) (s : State) : ticked (k + 1) s = tickBlock Config.params (ticked k s) :=
  Function.iterate_succ_apply' ..

/-- What a TICK does not write, `k` ticks do not write. -/
theorem ticked_keeps {α : Type} {f : State → α} (hf : ∀ s, f (tickBlock Config.params s) = f s) (k : Nat) (s : State) :
    f (ticked k s) = f s := by
  induction k with
  | zero => rfl
  | succ k ih => rw [ticked_succ, hf, ih]

theorem ticked_afterInput (k : Nat) (q : List Input) (s : State) :
    ticked k (afterInput q s) = afterInput q (ticked k s) :=
  Function.Commute.iterate_left (f := tickBlock Config.params) (g := afterInput q) (fun _ => rfl) k s

/-- Scheduled ticks run as `ticked` says, and the rest of the schedule is left: a TICK neither reads nor writes it. -/
theorem run_tickInputs {k : Nat} {s : State} {q : List Input} (hq : s.inputs = tickInputs k ++ q) :
    Host.Core.run Sys2Proof.core k s = .next (afterInput q (ticked k s)) := by
  induction k generalizing s with
  | zero => rw [← show s.inputs = q from hq]; rfl
  | succ k ih =>
    have hstep : Host.Core.run Sys2Proof.core 1 s = .next (afterInput (tickInputs k ++ q) (tickBlock Config.params s)) :=
      Control.run_one_of_exec hq rfl rfl
    have hrest := ih (s := afterInput (tickInputs k ++ q) (tickBlock Config.params s)) rfl
    rw [ticked_afterInput] at hrest
    exact Control.run_trans hstep hrest (Nat.add_comm ..)

/-! ## The phase (R220) -/

/-- The position in the PWM cycle, 0 to 1023. -/
def position (s : State) : Nat := s.slice.toNat + 32 * s.frame.toNat

/-- A TICK moves the position by one, and the flasher's phase toggles where the position starts again. -/
theorem tickBlock_position (s : State) :
    (position s < 1023 ∧ position (tickBlock Config.params s) = position s + 1 ∧ cycleEnd Config.params s = false)
      ∨ (position s = 1023 ∧ position (tickBlock Config.params s) = 0 ∧ cycleEnd Config.params s = true) := by
  have hslice : (tickBlock Config.params s).slice = s.slice + 1 := incMod_32 s.slice
  unfold position
  rw [hslice, tickBlock_frame]
  cases hc : cycleEnd Config.params s with
  | true =>
    obtain ⟨hs, hf⟩ := (cycleEnd_iff s).mp hc
    obtain ⟨hframe, -⟩ := tick_cycle_end Config.params s hc
    exact .inr ⟨by rw [hs, hf]; rfl, by rw [hframe, hs, hf]; rfl, rfl⟩
  | false =>
    have hnot : ¬(s.slice = 31 ∧ s.frame = 31) := by rw [← cycleEnd_iff, hc]; exact Bool.false_ne_true
    cases he : frameEnd Config.params s with
    | true =>
      obtain ⟨hframe, -⟩ := tick_frame_end Config.params s he hc
      rw [hframe, params_framesPerCycle, incMod_32]
      have hs := (frameEnd_iff s).mp he
      exact .inl ⟨by bv_omega, by bv_omega, rfl⟩
    | false =>
      obtain ⟨hframe, -⟩ := tick_inside Config.params s he
      rw [hframe]
      have hs : s.slice ≠ 31 := by rw [ne_eq, ← frameEnd_iff, he]; exact Bool.false_ne_true
      exact .inl ⟨by bv_omega, by bv_omega, rfl⟩

/-- The place in the two cycles of the flasher, 0 to 2047. -/
def phase (s : State) : Nat := position s + 1024 * s.flashPhase.toNat

theorem phase_tickBlock (s : State) : phase (tickBlock Config.params s) = (phase s + 1) % 2048 := by
  unfold phase
  rw [tickBlock_flashPhase, tickPhase]
  obtain ⟨hlt, hpos, hc⟩ | ⟨hlast, hpos, hc⟩ := tickBlock_position s <;> rw [hpos, hc]
  · have := s.flashPhase.toNat_le
    simp only [Bool.false_eq_true, if_false]
    omega
  · cases s.flashPhase <;> simp [hlast]

theorem phase_ticked (k : Nat) (s : State) : phase (ticked k s) % 2048 = (phase s + k) % 2048 := by
  induction k with
  | zero => rfl
  | succ k ih => rw [ticked_succ, phase_tickBlock]; omega

theorem phase_lt (s : State) : phase s < 2048 := by
  have hslice := s.slice.isLt
  have hframe := s.frame.isLt
  have := s.flashPhase.toNat_le
  unfold phase position
  omega

theorem ms_ticked (k : Nat) (s : State) : (ticked k s).ms.toNat = (s.ms.toNat + k) % 2 ^ 32 := by
  induction k with
  | zero => exact (Nat.mod_eq_of_lt s.ms.isLt).symm
  | succ k ih => rw [ticked_succ, tickBlock_ms, BitVec.toNat_add, ih, Nat.mod_add_mod]; rfl

/-- Settles O18: each TICK moves the phase by one modulo 2048, and `ms` by one modulo 2^32. -/
theorem phaseAfterTicks : Obligations.PhaseAfterTicks := by
  intro k s q hq
  refine ⟨_, run_tickInputs hq, ms_ticked k s, ?_⟩
  have hphase := phase_ticked k s
  rwa [Nat.mod_eq_of_lt (phase_lt _)] at hphase

/-! ## The next cycle boundary (R216, R229) -/

/-- Up to the cycle's last slice a tick moves the position only: the targets and the flasher's phase stay. -/
theorem ticked_inside_cycle {k : Nat} {s : State} (hk : position s + k < 1024) :
    position (ticked k s) = position s + k ∧ (ticked k s).target = s.target
      ∧ (ticked k s).flashPhase = s.flashPhase := by
  induction k with
  | zero => exact ⟨rfl, rfl, rfl⟩
  | succ k ih =>
    obtain ⟨hpos, htarget, hphase⟩ := ih (by omega)
    rw [ticked_succ]
    obtain ⟨-, hnext, hc⟩ | ⟨hlast, -, -⟩ := tickBlock_position (ticked k s)
    · refine ⟨by rw [hnext, hpos, Nat.add_assoc], ?_, ?_⟩
      · rw [tickBlock_target, tickTarget, hc, if_neg Bool.false_ne_true, htarget]
      · rw [tickBlock_flashPhase, tickPhase, hc, if_neg Bool.false_ne_true, hphase]
    · omega

/-- The tick that ends a cycle starts the next one with the targets of the commanded aspects and the other phase. -/
theorem tickBlock_last_position {s : State} (h : position s = 1023) :
    position (tickBlock Config.params s) = 0
      ∧ ∀ hd, atHead (tickBlock Config.params s).target hd
        = targetLevels Config.params (atHead s.aspectReg hd) (!s.flashPhase) := by
  obtain ⟨hlt, -, -⟩ | ⟨-, hpos, hc⟩ := tickBlock_position s
  · omega
  · obtain ⟨-, -, htarget, -⟩ := tick_cycle_end Config.params s hc
    exact ⟨hpos, fun hd => by rw [tickBlock_target, htarget, atHead_forHeads]⟩

theorem position_eq_zero_iff (s : State) : position s = 0 ↔ s.slice = 0 ∧ s.frame = 0 := by
  unfold position
  bv_omega

/-- Settles O34: the position counts the ticks to the cycle's last slice, and the tick there recomputes the targets. -/
theorem aspectReachesTargetInOneCycle : Obligations.AspectReachesTargetInOneCycle := by
  intro s q n hn hq
  replace hn : n = 1024 - position s := hn
  have hpos : position s < 1024 := by
    have hslice := s.slice.isLt
    have hframe := s.frame.isLt
    unfold position
    omega
  refine ⟨by omega, by omega, fun k hk => ?before, afterInput q (ticked n s), run_tickInputs hq, ?boundary⟩
  case before =>
    have hsplit : s.inputs = tickInputs k ++ (tickInputs (n - k) ++ q) := by
      rw [hq, ← List.append_assoc, tickInputs, tickInputs, tickInputs, ← List.replicate_add, Nat.add_sub_of_le hk.le]
    obtain ⟨-, htarget, -⟩ := ticked_inside_cycle (k := k) (s := s) (by omega)
    exact ⟨_, run_tickInputs hsplit, htarget⟩
  case boundary =>
    obtain ⟨m, rfl⟩ : ∃ m, n = m + 1 := ⟨n - 1, by omega⟩
    obtain ⟨hlast, -, hphase⟩ := ticked_inside_cycle (k := m) (s := s) (by omega)
    have haspect : (ticked m s).aspectReg = s.aspectReg := ticked_keeps (f := State.aspectReg) (fun _ => rfl) m s
    obtain ⟨hzero, htarget⟩ := tickBlock_last_position (s := ticked m s) (by omega)
    obtain ⟨hslice, hframe⟩ := (position_eq_zero_iff _).mp hzero
    rw [← haspect, ← hphase, ticked_succ]
    exact ⟨hslice, hframe, htarget⟩

end Sys2Proof.AspectDriver

/-! # The commands one by one: what each returns and writes (40 to 45), and the fail-safe timeout (44_interlocking R288) -/

namespace Sys2Proof.Commands

open Sys2Proof.Machine

/-! ## Timers, reads and head aspects (R144 to R146, R173, R211, R212) -/

/-- A selector that names a timer arms it with the data word. -/
theorem exec_tmrArm_timerCode (u : Timer) (v : Word) (s : State) :
    exec (.tmrArm (timerCode u) v) s = .next (respond 0 (armTimer u v s)) := by
  simp only [exec, execTmrArm, timerOf_timerCode]

/-- Settles O15: the armed timers are `writeTimer`'s, which differ from those found in the selected one only. -/
theorem tmrArmWritesOneTimer : Obligations.TmrArmWritesOneTimer := by
  intro s u v
  refine ⟨writeTimer s.tmr u v, exec_tmrArm_timerCode u v s, ?selected, fun w hw => ?others⟩
  case selected => rw [readTimer_writeTimer, if_pos rfl]
  case others => rw [readTimer_writeTimer, if_neg hw]

/-- Settles O16: each read responds with its register, and a 32-bit word holds the eight lanes whole. -/
theorem readsReturnTheirRegisters : Obligations.ReadsReturnTheirRegisters := by
  intro s
  exact ⟨rfl, rfl, rfl, rfl, s.dbStable.setWidth 32, rfl, BitVec.toNat_setWidth_of_le (by decide)⟩

@[simp] theorem aspectOfCode_aspectCode (a : Aspect) : aspectOfCode (aspectCode a) = some a := by cases a <;> rfl

/-- Settles O36: an aspect's own code names it, and `setHead` writes the head selected. -/
theorem aspectSetWritesOneHead : Obligations.AspectSetWritesOneHead := by
  intro s h a f
  refine ⟨setHead s.aspectReg h ⟨f, a⟩, ?writes, ?selected, fun k hk => ?other⟩
  case writes => simp only [exec, execAspectSet, aspectOfCode_aspectCode]; rfl
  case selected => rw [atHead_setHead, if_pos rfl]
  case other => rw [atHead_setHead, if_neg hk]

theorem granting_iff (x : InterlockState) : granting x = true ↔ x = .clearance ∨ x = .timeout := by
  cases x <;> decide

/-- The projection of a head, with its states written out (R278). -/
theorem aspectOf_eq_ite (s : State) (h : Head) : aspectOf s h =
    if (s.fsmState = .clearance ∨ s.fsmState = .timeout) ∧ s.holder = some (dirOf h) then .green else .red := by
  simp only [aspectOf, Bool.and_eq_true, granting_iff, beq_iff_eq]

/-- Settles O37: ASPECT_SYNC writes each head's projection, not flashing. -/
theorem aspectSyncProjects : Obligations.AspectSyncProjects := by
  intro s
  exact ⟨forHeads fun h => ⟨false, aspectOf s h⟩, rfl, congrArg _ (aspectOf_eq_ite s .a),
    congrArg _ (aspectOf_eq_ite s .b)⟩

/-! ## The lock commands (R261 to R264) -/

theorem exec_lockReq_directionCode (d : Approach) (s : State) : exec (.lockReq (directionCode (some d))) s
    = .next (respond ((BitVec.ofBool (lockAcquire d s).1).setWidth 32) (lockAcquire d s).2) := by
  cases d <;> rfl

/-- Settles O39: the two outcomes of the acquisition, with what each responds. -/
theorem lockCommands : Obligations.LockCommands := by
  intro s d
  rw [exec_lockReq_directionCode]
  refine ⟨fun ⟨hfree, hclear⟩ => ?granted, fun hno => ?refused, rfl⟩
  all_goals obtain ⟨hfree', hclear', h⟩ | ⟨hno', h⟩ := lockAcquire_cases d s
  case granted.inl => rw [h]; rfl
  case granted.inr => simp [hfree, show occJ s = false from hclear] at hno'
  case refused.inl =>
    have hnot : ¬(s.locked = true ∨ occJ s = true) := by simp [hfree', hclear']
    exact absurd hno hnot
  case refused.inr => rw [h]; rfl

/-! ## IDLE (R266, R276) -/

/-- The approach that IDLE serves: A is tested first. -/
def firstOccupied (s : State) : Approach := if s.dbStable.getLsbD 0 then .a else .b

/-- IDLE may pick: an approach is occupied and no lockout runs. -/
def PickDue (s : State) : Prop :=
  s.tmr.lockout = 0 ∧ (s.dbStable.getLsbD 0 = true ∨ s.dbStable.getLsbD 1 = true)

theorem fromIdle_picks {P : Config.Params} {s : State} (h : PickDue s) :
    fromIdle P s = pickApproach P (firstOccupied s) s := by
  obtain ⟨hlockout, hocc⟩ := h
  have hexp : expired s .lockout = true := beq_iff_eq.mpr hlockout
  simp only [fromIdle, hexp, Bool.and_true, occ, firstOccupied]
  cases ha : s.dbStable.getLsbD 0 with
  | true => rfl
  | false => rw [hocc.resolve_left (Bool.eq_false_iff.mp ha)]; rfl

theorem fromIdle_stays {P : Config.Params} {s : State} (h : ¬PickDue s) : fromIdle P s = s := by
  have hno (d : Approach) : (occ s d && expired s .lockout) = false := by
    rw [Bool.eq_false_iff, ne_eq, Bool.and_eq_true, Interlocking.expired_iff]
    rintro ⟨hocc, hexp⟩
    exact h ⟨hexp, by cases d; exacts [.inl hocc, .inr hocc]⟩
  simp only [fromIdle, hno, Bool.false_eq_true, if_false]

theorem exec_fsmStep_idle {s : State} (hs : s.fsmState = .idle) :
    exec .fsmStep s = .next (respond 0 (fromIdle Config.params s)) :=
  Interlocking.exec_fsmStep_of_ok (by simp only [fsmTransition, hs])

/-- IDLE that may not pick stays, and writes nothing but the response. -/
theorem exec_fsmStep_idle_stays {s : State} (hs : s.fsmState = .idle) (h : ¬PickDue s) :
    exec .fsmStep s = .next { s with resp := some 0, frames := [] } := by
  rw [exec_fsmStep_idle hs, fromIdle_stays h]; rfl

/-- Settles O41: the pick computes a fixed dwell, which is the clamped class times 5 and changes no register. -/
theorem fsmIdleFixed : Obligations.FsmIdleFixed := by
  intro s hs hfixed
  by_cases hpick : PickDue s
  · rw [exec_fsmStep_idle hs, fromIdle_picks hpick, pickApproach_eq, hfixed, dwellSeconds_fixed, dwellSeconds_fixed]
    exact congrArg _ (if_pos hpick).symm
  · rw [exec_fsmStep_idle_stays hs hpick]
    exact congrArg _ (if_neg hpick).symm

/-- Settles O42: the pick computes a random dwell, which lies in its class's set and seeds the source once. -/
theorem fsmIdleRandom : Obligations.FsmIdleRandom := by
  intro s hs hrandom
  refine ⟨fun hno => exec_fsmStep_idle_stays hs hno, fun hpick => ?_⟩
  refine ⟨_, s.drawCount + 1, ?writes, Dwell.dwellSeconds_random_inClassSet s.cfg.dwellClass
    { s with holder := some (firstOccupied s) }⟩
  rw [exec_fsmStep_idle hs, fromIdle_picks hpick, pickApproach_eq, hrandom, dwellSeconds_state]
  rfl

/-! ## The fail-safe timeout (R288) -/

/-- `k` ticks take `k` from a timer, down to 0 (R148). -/
theorem readTimer_ticked (k : Nat) (s : State) (u : Timer) :
    (readTimer (AspectDriver.ticked k s).tmr u).toNat = (readTimer s.tmr u).toNat - k := by
  induction k with
  | zero => rfl
  | succ k ih =>
    rw [AspectDriver.ticked_succ, tickBlock_tmr, readTimer_tickTimers, countDown_toNat, ih, Nat.sub_sub]

/-- TIMEOUT with a clear junction, a clear approach and an expired timer goes to RESET and frees the lock (R270, R275). -/
theorem exec_fsmStep_timeout_expires {s : State} {d : Approach} (hs : s.fsmState = .timeout) (hd : s.holder = some d)
    (hjunction : occJ s = false) (hocc : occ s d = false) (hexp : s.tmr.timeout = 0) :
    exec .fsmStep s = .next (respond 0 (enterReset s)) := by
  have hexpired : expired s .timeout = true := (Interlocking.expired_iff s .timeout).mpr hexp
  rw [Interlocking.exec_fsmStep_of_ok (Interlocking.fsmTransition_timeout hs hd), fromTimeout, hjunction, hocc, hexpired]
  rfl

/-- Ticks for as long as the timeout timer was armed leave it at 0, and the rest of what TIMEOUT's guards read as it was. -/
theorem run_ticks_expires {s : State} {n : Nat} {rest : List Input} (hn : s.tmr.timeout.toNat ≤ n)
    (hq : s.inputs = tickInputs n ++ rest) :
    ∃ u : State, Host.Core.run Sys2Proof.core n s = .next u ∧ u.inputs = rest ∧ u.tmr.timeout = 0
      ∧ u.fsmState = s.fsmState ∧ u.holder = s.holder ∧ u.dbStable = s.dbStable := by
  have hcount : (AspectDriver.ticked n s).tmr.timeout.toNat = s.tmr.timeout.toNat - n := readTimer_ticked n s .timeout
  rw [Nat.sub_eq_zero_of_le hn] at hcount
  exact ⟨_, AspectDriver.run_tickInputs hq, rfl, BitVec.eq_of_toNat_eq hcount,
    AspectDriver.ticked_keeps (f := State.fsmState) (fun _ => rfl) n s,
    AspectDriver.ticked_keeps (f := State.holder) (fun _ => rfl) n s,
    AspectDriver.ticked_keeps (f := State.dbStable) (fun _ => rfl) n s⟩

/-- The occupancy is read from the stable lanes only (R260). -/
theorem occ_congr {s t : State} (h : t.dbStable = s.dbStable) (d : Approach) : occ t d = occ s d := by
  cases d <;> simp only [occ, h]

/-- Settles O49: the ticks write nothing that TIMEOUT's guards read but the timer, and that has run out. -/
theorem failSafeTimeout : Obligations.FailSafeTimeout := by
  intro s d n q hs hd hjunction hocc hn hq
  obtain ⟨u, hrun, hqu, hexp, hstate, hholder, hstable⟩ := run_ticks_expires hn hq
  have hjunctionu : occJ u = false := by rw [occJ, hstable, hjunction]
  have hexec := exec_fsmStep_timeout_expires (s := afterInput q u) (hstate.trans hs) (hholder.trans hd) hjunctionu
    ((occ_congr hstable d).trans hocc) hexp
  exact ⟨_, Control.run_trans hrun (Control.run_one_of_exec hqu rfl hexec), rfl, rfl, rfl, rfl, rfl⟩

/-! ## The fields of the response words (R213, R311, R313) -/

/-- Settles O38: the seven fields of `pwmWord` lie side by side below bit 31. -/
theorem pwmReadFields : Obligations.PwmReadFields := by
  intro s h
  refine ⟨pwmWord s h, rfl, ?_⟩
  unfold pwmWord placedBit
  refine ⟨?_, ?_, ?_, ?_, ?_, ?_, ?bits⟩
  case bits =>
    simp only [BitVec.getLsbD_or, Control.getLsbD_placed]
    simp
  all_goals simp [BitVec.extractLsb'_or, Control.extractLsb'_placed_same, Control.extractLsb'_placed_disjoint]

/-- The configuration word holds each field at its place (R313). -/
theorem cfgBits_fields (c : Cfg) :
    (cfgBits c).extractLsb' 0 8 = c.dwellClass ∧ (cfgBits c).extractLsb' 8 8 = c.timeoutClass
      ∧ (cfgBits c).extractLsb' 19 13 = 0 := by
  unfold cfgBits placedBit
  refine ⟨?_, ?_, ?_⟩
  all_goals simp [BitVec.extractLsb'_or, Control.extractLsb'_placed_same, Control.extractLsb'_placed_disjoint]

/-- The configuration word holds each one-bit field at its place (R313). -/
theorem cfgBits_bits (c : Cfg) :
    (cfgBits c).getLsbD 16 = c.randomized ∧ (cfgBits c).getLsbD 17 = c.searchlight
      ∧ (cfgBits c).getLsbD 18 = c.invert := by
  unfold cfgBits placedBit
  simp only [BitVec.getLsbD_or, Control.getLsbD_placed]
  simp

/-- What a data word loads reads back as its low 19 bits. -/
theorem cfgBits_cfgOfData (data : Word) : cfgBits (cfgOfData data) = data &&& 0x0007FFFF := by
  refine BitVec.eq_of_getLsbD_eq fun j hj => ?_
  simp only [cfgBits, placedBit, cfgOfData, BitVec.getLsbD_or, BitVec.getLsbD_and, Control.getLsbD_placed,
    BitVec.getLsbD_extractLsb', BitVec.getLsbD_ofBool]
  interval_cases j <;> simp

/-- Settles O51: CFG_WRITE loads the fields of the data word, and their places in page 2 are those they came from. -/
theorem cfgWriteLoadsFields : Obligations.CfgWriteLoadsFields := by
  intro s data
  refine ⟨cfgOfData data, rfl, rfl, ?readBack⟩
  rw [← cfgBits_cfgOfData]
  rfl

/-- The rest of page 0: the seeded flag, and nothing above it (R313). -/
theorem statusWord_upper (s : State) :
    (statusWord s).getLsbD 21 = s.rngSeeded ∧ (statusWord s).extractLsb' 22 10 = 0 := by
  unfold statusWord placedBit
  constructor
  · simp only [BitVec.getLsbD_or, Control.getLsbD_placed]
    simp
  · simp [BitVec.extractLsb'_or, Control.extractLsb'_placed_disjoint]

/-- Settles O52: each page's fields lie side by side, and the codes are those of R15. -/
theorem statusPages : Obligations.StatusPages := by
  intro s
  obtain ⟨hstate, hholder, hrecord, haspectA, haspectB, hindA, hindB⟩ := Control.statusWord_fields s
  obtain ⟨hlocked, hflashA, hflashB, hwaiting, herr⟩ := Control.statusWord_bits s
  obtain ⟨hseeded, hupper⟩ := statusWord_upper s
  obtain ⟨hdwell, htimeout, habove⟩ := cfgBits_fields s.cfg
  obtain ⟨hrandomized, hsearchlight, hinvert⟩ := cfgBits_bits s.cfg
  refine ⟨⟨statusWord s, rfl, ?status⟩, ⟨s.errCmd.setWidth 32, rfl, BitVec.toNat_setWidth_of_le (by decide)⟩,
    ⟨cfgBits s.cfg, rfl, hdwell, htimeout, hrandomized, hsearchlight, hinvert, habove⟩, rfl⟩
  exact ⟨hstate, hholder, hlocked, hrecord, haspectA, hflashA, haspectB, hflashB, hindA, hindB,
    hwaiting.trans (beq_eq_decide ..), herr, hseeded, hupper⟩

end Sys2Proof.Commands
